-- ==== Sys2Proof/Word.lean ====
section
/-! DEFINITION. Words, bytes and the numbered things of the part: stations, channels, windows. -/

namespace Sys2Proof

/-- A word of the register window or of the local bus. -/
abbrev Word := BitVec 32

/-- One byte of payload. -/
abbrev Byte := BitVec 8

/-- A station ID, 0 to 15 (00_scope, Terms). -/
abbrev StationId := Fin 16

/-- A transmit channel, TC0 to TC3. -/
abbrev ChannelNo := Fin 4

/-- A window number, 0 to 15. -/
abbrev WindowNo := Fin 16

end Sys2Proof
end

