-- ==== Sys2Proof/Syntax.lean ====
section
/-! DEFINITION. The commands of the block: one constructor for each row of spec/opcode_table.json, with the operands the
event carries. Bus operands are the fields as read from the bus, checks included (Figures 10-15 to 10-17). -/

namespace Sys2Proof

/-- The bus mode (R38); on the bus 0 ROTATE, 1 FIXED. -/
inductive BusMode where
  | rotate
  | fixed
  deriving DecidableEq, Repr

/-- The census interval code (R38); codes 0 to 3 in this order. -/
inductive Interval where
  | t64
  | t256
  | t1024
  | t4096
  deriving DecidableEq, Repr

/-- The levels of the eight strap pins, true for high (Figure 3-4). -/
structure StrapPins where
  sid3 : Bool
  sid2 : Bool
  sid1 : Bool
  sid0 : Bool
  mode : Bool
  cint1 : Bool
  cint0 : Bool
  autoJ : Bool
  deriving DecidableEq, Repr

/-- A tenure header as read from the bus (Figure 10-15): the count field holds k − 1, the destination field its
encoding. -/
structure WireHeader where
  sender : StationId
  channel : ChannelNo
  countField : Fin 8
  destField : Fin 32
  window : WindowNo
  check : BitVec 16
  deriving DecidableEq, Repr

/-- A frame as read from the bus (Figure 10-16). The length field is the payload's length less one. -/
structure WireFrame where
  index : Fin 8
  offset : Option (BitVec 20)
  last : Bool
  payload : List Byte
  check : BitVec 16
  deriving DecidableEq, Repr

/-- A census header as read from the bus (Figure 10-17). -/
structure WireCensusHeader where
  claimant : StationId
  slots : Fin 32
  mode : BusMode
  interval : Interval
  check : BitVec 16
  deriving DecidableEq, Repr

/-- One entry of a list copy as read from the bus: the miss count field has two bits. -/
structure WireEntry where
  id : StationId
  miss : Fin 4
  deriving DecidableEq, Repr

/-- A list slot answer as read from the bus (Figure 10-17). The entry count field is the number of entries. -/
structure WireListAnswer where
  id : StationId
  leave : Bool
  entries : List WireEntry
  check : BitVec 16
  deriving DecidableEq, Repr

/-- A join slot answer as read from the bus (Figure 10-17). -/
structure WireJoinAnswer where
  id : StationId
  check : BitVec 16
  deriving DecidableEq, Repr

/-- The three verdict lines at the sample point: true for raised (R18). -/
structure Lines where
  accept : Bool
  retry : Bool
  refuse : Bool
  deriving DecidableEq, Repr

/-- The fourteen words of the register window whose write is a plain register write: all but the command code word
(a write of it takes a command) and the log control word (Figure 10-6). -/
inductive PlainWord where
  | command (i : Fin 4)
  | resultCode
  | result (i : Fin 4)
  | stationStatus
  | record (i : Fin 4)
  deriving DecidableEq, Repr

/-- The commands. A host command (PUSH to STATION_RESET) is the write of its code to the command code word: it takes its
parameters from command words 0 to 3 as they stand (R165). -/
inductive Instr where
  /-- START_MARK (R1, R3) -/
  | startMark
  /-- CONTEST_LOSS (R5) -/
  | contestLoss
  /-- CLAIM_CODE_END (R5, R6), with the five bits read, the kind bit highest -/
  | claimCodeEnd (code : BitVec 5)
  /-- CONTEST_SILENCE (R1) -/
  | contestSilence
  /-- STEP_IN_SILENCE (R2) -/
  | stepInSilence
  /-- TENURE_HEADER (R9) -/
  | tenureHeader (h : WireHeader)
  /-- FRAME (R12) -/
  | frame (f : WireFrame)
  /-- VERDICT_MARK (R17) -/
  | verdictMark
  /-- VERDICT_SAMPLE (R18), with the lines as the medium shows them -/
  | verdictSample (lines : Lines)
  /-- TRUNCATION (R19) -/
  | truncation
  /-- ECHO_WITHDRAWAL (R14) -/
  | echoWithdrawal
  /-- ECHO_MISMATCH_TENURE (R15) -/
  | echoMismatchTenure
  /-- ECHO_MISMATCH_CENSUS (R16) -/
  | echoMismatchCensus
  /-- CENSUS_HEADER (R21, R45) -/
  | censusHeader (h : WireCensusHeader)
  /-- CENSUS_SLOT_TIME (R21) -/
  | censusSlotTime
  /-- SLOT_MARK (R21) -/
  | slotMark
  /-- LIST_SLOT_ANSWER (R47) -/
  | listSlotAnswer (a : WireListAnswer)
  /-- JOIN_SLOT_ANSWER (R49) -/
  | joinSlotAnswer (a : WireJoinAnswer)
  /-- END_MARK (R50) -/
  | endMark
  /-- CENSUS_ABANDON_SILENCE (R22) -/
  | censusAbandonSilence
  /-- IDLE_TIMER_EXPIRY (R40) -/
  | idleTimerExpiry
  /-- FORMATION_TIMER_EXPIRY (R43) -/
  | formationTimerExpiry
  /-- RESET_ASSERTED (R37) -/
  | resetAsserted
  /-- RESET_RELEASED (R37), with the strap pins as sampled -/
  | resetReleased (pins : StrapPins)
  /-- PACE_ACTIVE (R89): the PACE input of a channel changes to the level given, true for active (log 13) -/
  | paceActive (c : ChannelNo) (level : Bool)
  /-- FRAME_READ_COMPLETION (R86), with the words the local bus answered, in ascending address order -/
  | frameReadCompletion (words : List Word)
  /-- READ_FAULT (R91) -/
  | readFault
  /-- STALE_READ_COMPLETION (R92), with data or with an error response -/
  | staleReadCompletion
  /-- LANDING_WRITE_COMPLETION (R141) -/
  | landingWriteCompletion
  /-- SPLIT_FIRST_PART_COMPLETION (R142) -/
  | splitFirstPartCompletion
  /-- WRITE_FAULT (R146) -/
  | writeFault
  /-- ORPHAN_COMPLETION (R156) -/
  | orphanCompletion
  /-- PUSH (R63, R65), code hex 01 -/
  | push
  /-- STOP (R108), code hex 02 -/
  | stop
  /-- RESUME (R78), code hex 03 -/
  | resume
  /-- FLUSH (R79), code hex 04 -/
  | flush
  /-- QUERY_CHANNEL (R81), code hex 05 -/
  | queryChannel
  /-- OPEN (R127), code hex 08 -/
  | openWindow
  /-- CLOSE (R128), code hex 09 -/
  | closeWindow
  /-- CONSUME (R130), code hex 0A -/
  | consume
  /-- REARM (R132), code hex 0B -/
  | rearm
  /-- QUERY_WINDOW (R133), code hex 0C -/
  | queryWindow
  /-- LEAVE (R58), code hex 10 -/
  | leave
  /-- JOIN (R59), code hex 11 -/
  | join
  /-- STATION_RESET (R167), code hex 1F, with the strap pins as sampled again -/
  | stationReset (pins : StrapPins)
  /-- UNKNOWN_COMMAND (R165): a write of a code that names no command -/
  | unknownCommand (code : BitVec 8)
  /-- POP (R162): a log control write with the POP bit 1, and the enable bit of the same write (R169) -/
  | pop (enable : Bool)
  /-- SET_INTERRUPT_ENABLE (R169): a log control write with the POP bit 0 -/
  | setInterruptEnable (enable : Bool)
  /-- REGISTER_WRITE (R165, R169): a write of one of the plain words, with its byte enables -/
  | registerWrite (w : PlainWord) (value : Word) (enables : BitVec 4)
  deriving DecidableEq, Repr

end Sys2Proof
end

