-- ==== Sys2Proof/WellFormed.lean ====
section
/-! DEFINITION. Which command terms are well formed: an operand that the bus or the port can carry at all. -/

namespace Sys2Proof

/-- The thirteen command codes of Figure 10-9; every other code is unknown (R165). -/
def knownCodes : List (BitVec 8) :=
  [0x01, 0x02, 0x03, 0x04, 0x05, 0x08, 0x09, 0x0A, 0x0B, 0x0C, 0x10, 0x11, 0x1F]

/-- Figure 10-16: the payload of a frame has 1 to 64 bytes, as its six-bit length field says. -/
def WireFrame.wellFormed (f : WireFrame) : Bool :=
  decide (1 ≤ f.payload.length) && decide (f.payload.length ≤ 64)

/-- Figure 10-17: the entry count field has five bits, so an answer carries at most 31 entries. -/
def WireListAnswer.wellFormed (a : WireListAnswer) : Bool :=
  decide (a.entries.length ≤ 31)

/-- R151: an access spans 1 to 17 words. -/
def wellFormedAnswer (words : List Word) : Bool :=
  decide (1 ≤ words.length) && decide (words.length ≤ 17)

/-- A command term is well formed when its operand can be carried. -/
def Instr.wellFormed : Instr → Bool
  | .startMark => true
  | .contestLoss => true
  | .claimCodeEnd _ => true
  | .contestSilence => true
  | .stepInSilence => true
  | .tenureHeader _ => true
  | .frame f => f.wellFormed
  | .verdictMark => true
  | .verdictSample _ => true
  | .truncation => true
  | .echoWithdrawal => true
  | .echoMismatchTenure => true
  | .echoMismatchCensus => true
  | .censusHeader _ => true
  | .censusSlotTime => true
  | .slotMark => true
  | .listSlotAnswer a => a.wellFormed
  | .joinSlotAnswer _ => true
  | .endMark => true
  | .censusAbandonSilence => true
  | .idleTimerExpiry => true
  | .formationTimerExpiry => true
  | .resetAsserted => true
  | .resetReleased _ => true
  | .paceActive _ _ => true
  | .frameReadCompletion words => wellFormedAnswer words
  | .readFault => true
  | .staleReadCompletion => true
  | .landingWriteCompletion => true
  | .splitFirstPartCompletion => true
  | .writeFault => true
  | .orphanCompletion => true
  | .push => true
  | .stop => true
  | .resume => true
  | .flush => true
  | .queryChannel => true
  | .openWindow => true
  | .closeWindow => true
  | .consume => true
  | .rearm => true
  | .queryWindow => true
  | .leave => true
  | .join => true
  | .stationReset _ => true
  | .unknownCommand code => !knownCodes.contains code
  | .pop _ => true
  | .setInterruptEnable _ => true
  | .registerWrite _ _ _ => true

end Sys2Proof
end

