-- ==== Sys2Proof/Decode.lean ====
section
/-! DEFINITION. The table's rows give no bits, so no word spells a command (`decodeTableWord`). What the spec does encode
is the host's write of the register window: which command such a write is (R165, R169, Figures 10-6, 10-8 and 10-9). -/

namespace Sys2Proof

/-- No row of spec/opcode_table.json gives bits: no word spells a command. -/
def decodeTableWord (_nbits _w : Nat) : Option Instr := none

/-- R165, Figure 10-9: the command that a code names. STATION_RESET samples the strap pins as they then stand. -/
def commandOfCode (pins : StrapPins) (code : BitVec 8) : Instr :=
  if code = 0x01 then .push
  else if code = 0x02 then .stop
  else if code = 0x03 then .resume
  else if code = 0x04 then .flush
  else if code = 0x05 then .queryChannel
  else if code = 0x08 then .openWindow
  else if code = 0x09 then .closeWindow
  else if code = 0x0A then .consume
  else if code = 0x0B then .rearm
  else if code = 0x0C then .queryWindow
  else if code = 0x10 then .leave
  else if code = 0x11 then .join
  else if code = 0x1F then .stationReset pins
  else .unknownCommand code

/-- Figure 10-9, read the other way: the code whose write a command is, if it is one. -/
def Instr.commandCode : Instr → Option (BitVec 8)
  | .startMark => none
  | .contestLoss => none
  | .claimCodeEnd _ => none
  | .contestSilence => none
  | .stepInSilence => none
  | .tenureHeader _ => none
  | .frame _ => none
  | .verdictMark => none
  | .verdictSample _ => none
  | .truncation => none
  | .echoWithdrawal => none
  | .echoMismatchTenure => none
  | .echoMismatchCensus => none
  | .censusHeader _ => none
  | .censusSlotTime => none
  | .slotMark => none
  | .listSlotAnswer _ => none
  | .joinSlotAnswer _ => none
  | .endMark => none
  | .censusAbandonSilence => none
  | .idleTimerExpiry => none
  | .formationTimerExpiry => none
  | .resetAsserted => none
  | .resetReleased _ => none
  | .paceActive _ _ => none
  | .frameReadCompletion _ => none
  | .readFault => none
  | .staleReadCompletion => none
  | .landingWriteCompletion => none
  | .splitFirstPartCompletion => none
  | .writeFault => none
  | .orphanCompletion => none
  | .push => some 0x01
  | .stop => some 0x02
  | .resume => some 0x03
  | .flush => some 0x04
  | .queryChannel => some 0x05
  | .openWindow => some 0x08
  | .closeWindow => some 0x09
  | .consume => some 0x0A
  | .rearm => some 0x0B
  | .queryWindow => some 0x0C
  | .leave => some 0x10
  | .join => some 0x11
  | .stationReset _ => some 0x1F
  | .unknownCommand code => some code
  | .pop _ => none
  | .setInterruptEnable _ => none
  | .registerWrite _ _ _ => none

/-- R169: byte `i` of a written value, taken as 0 where its byte enable is not set. -/
def enabledByte (value : Word) (enables : BitVec 4) (i : Nat) : Byte :=
  if enables.getLsbD i then BitVec.ofNat 8 (value.toNat >>> (8 * i)) else 0

/-- The plain word at a word index of the register window, where there is one (Figure 10-6: offset = 4 × index). -/
def plainWordAt (index : Fin 16) : Option PlainWord :=
  match index.val with
  | 0 => some (.command 0)
  | 1 => some (.command 1)
  | 2 => some (.command 2)
  | 3 => some (.command 3)
  | 5 => some .resultCode
  | 6 => some (.result 0)
  | 7 => some (.result 1)
  | 8 => some (.result 2)
  | 9 => some (.result 3)
  | 10 => some .stationStatus
  | 12 => some (.record 0)
  | 13 => some (.record 1)
  | 14 => some (.record 2)
  | 15 => some (.record 3)
  | _ => none

/-- R165, R169: the command that a write of the register window is. A write of any enabled byte of the command code word
(index 4) or of the log control word (index 11) acts as a write of the whole word, bytes not enabled taken as 0; with no
byte enabled nothing is written. -/
def commandOfWrite (pins : StrapPins) (index : Fin 16) (value : Word) (enables : BitVec 4) : Option Instr :=
  match plainWordAt index with
  | some w => some (.registerWrite w value enables)
  | none =>
    if enables = 0 then none
    else if index.val = 4 then some (commandOfCode pins (enabledByte value enables 0))
    else
      let low := enabledByte value enables 0
      if low.getLsbD 1 then some (.pop (low.getLsbD 0)) else some (.setInterruptEnable (low.getLsbD 0))

end Sys2Proof
end

