-- ==== Sys2Proof/Config.lean ====
section
/-! DEFINITION. What an implementation fixes: the part's capacities and lengths of time, each with the rule that states
it, and the one free choice the spec leaves open. -/

namespace Sys2Proof

/-- R157: the completion log holds at most 32 records. -/
def Config.logCapacity : Nat := 32

/-- R136: the landing queue holds at most 16 frames. -/
def Config.landingCapacity : Nat := 16

/-- R64: the staged queue of a channel holds at most 8 records. -/
def Config.stagedCapacity : Nat := 8

/-- R100, R103: the retry count at which a segment ends with RETRY_EXHAUSTED. -/
def Config.retryLimit : Nat := 16

/-- R79, R80: where the flush note count saturates. -/
def Config.flushCountLimit : Nat := 255

/-- R39: where the tenure counter stays. -/
def Config.tenureCounterLimit : Nat := 65535

/-- R138: where a window's committed frame count saturates. -/
def Config.frameCountLimit : Nat := 65535

/-- R84: the greatest byte count of a frame read. -/
def Config.frameBytes : Nat := 64

/-- R63, R127: the greatest length of a segment and size of a window, 1,048,576. -/
def Config.maxSpan : Nat := 1048576

/-- One past the top of the local address space (R63, R127). -/
def Config.addressSpace : Nat := 4294967296

/-- R42: the tenures past the interval at which every member asks for a census. -/
def Config.graceTenures : Nat := 16

/-- R21: the join slots of a census. -/
def Config.joinSlots : Nat := 16

/-- R50: the miss count at which an entry is removed. -/
def Config.missLimit : Nat := 3

/-- R2, R19, R22: the truncation silence, in nanoseconds. -/
def Config.truncationSilenceNs : Nat := 8000

/-- R21: the census slot time, in nanoseconds. -/
def Config.slotTimeNs : Nat := 7000

/-- R40: the length of the idle timer, in nanoseconds. -/
def Config.idleTimerNs : Nat := 2000000

/-- R41, Figure 3-5: the length of the formation timer of a station with the given ID, in nanoseconds. -/
def Config.formationTimerNs (id : Nat) : Nat := 4000000 + 250000 * id

/-- FREE VALUE (log 16). Where one event makes two blocks act that both reach the completion log or the memory port, and
the spec says that either may be taken first (R20, R154, R161), the `n`-th such choice takes the channel first when this
is true. It has no body: nothing is known of it. -/
opaque Config.firstReport : Nat → Bool

end Sys2Proof
end

