-- ==== Sys2Proof/Machine/State.lean ====
section
/-! DEFINITION. The state of the part, block by block as Figure 0-1 lists it, its value at reset, and the reasons a step
can stop. Plain data throughout. -/

namespace Sys2Proof.Machine

/-! ## Shared names -/

/-- The straps as sampled when reset is released (R37, Figure 3-4). -/
structure Straps where
  id : StationId
  mode : BusMode
  interval : Interval
  autoJoin : Bool
  deriving DecidableEq, Repr

/-- The destination of a tenure: a station or ALL (Figure 1-3). -/
inductive Destination where
  | station (id : StationId)
  | all
  deriving DecidableEq, Repr

/-- The outcome of a tenure (R18, R19). -/
inductive TenureOutcome where
  | commit
  | retry
  | refuse
  | unclaimed
  | aborted
  deriving DecidableEq, Repr

/-- A verdict line, and the vote that raises it (R17, R125). -/
inductive Vote where
  | accept
  | retry
  | refuse
  deriving DecidableEq, Repr

/-! ## Order list unit -/

/-- An order list entry (R24, Figure 2-1). -/
structure Entry where
  id : StationId
  miss : Fin 3
  deriving DecidableEq, Repr

/-- The order list unit (R24 to R35). Own rank and member count are computed from it (R25). -/
structure OrderUnit where
  /-- the order list, rank 0 first -/
  list : List Entry
  /-- the order disagreement flag (R27, R28) -/
  disagree : Bool
  deriving DecidableEq, Repr

/-! ## Bus controller -/

/-- The bus phase as this station sees it (R1, Figure 1-1). -/
inductive Phase where
  | silent
  | contest
  | tenure
  | census
  deriving DecidableEq, Repr

/-- A good tenure header as recorded (R9, Figure 1-3). -/
structure Header where
  sender : StationId
  channel : ChannelNo
  frameCount : Nat
  dest : Destination
  window : WindowNo
  deriving DecidableEq, Repr

/-- What this station holds of the current tenure's header: `unreadable` is the noted header failure (R9). -/
inductive HeaderView where
  | awaited
  | unreadable
  | good (h : Header)
  deriving DecidableEq, Repr

/-- The verdict slot: whether the verdict mark has arrived, and the line this station raises (R17). -/
inductive VerdictSlot where
  | closed
  | opened (raised : Option Vote)
  deriving DecidableEq, Repr

/-- A census header's fields (Figure 3-7). -/
structure CensusHeader where
  claimant : StationId
  slots : Nat
  mode : BusMode
  interval : Interval
  deriving DecidableEq, Repr

/-- What this station holds of the header of the census in progress (R21). -/
inductive CensusHeaderView where
  | awaited
  | bad
  | good
  deriving DecidableEq, Repr

/-- A claim in a contest (R4). A census claim records whether it is a formation census, from the link state held when
the claim began (R44); a tenure claim carries the own rank (R26). -/
inductive Claim where
  | census (formation : Bool)
  | tenure (rank : Nat)
  deriving DecidableEq, Repr

/-- The part a claimant's census has come to (R21): the header, a slot mark, the slot time after it, or the end mark. -/
inductive CensusPart where
  | header
  | slotMark (k : Nat)
  | slotTime (k : Nat)
  | endMark
  deriving DecidableEq, Repr

/-- What this station drives: a claim code, the tenure of its ON_BUS channel, or the census it claimed. -/
inductive Drive where
  | nothing
  | claim (c : Claim)
  | tenure (c : ChannelNo)
  | census (h : CensusHeader) (part : CensusPart)
  deriving DecidableEq, Repr

/-- A census answer this station sends (R46, R49). -/
inductive Answer where
  | list (id : StationId) (leave : Bool) (copy : List Entry)
  | join (id : StationId)
  deriving DecidableEq, Repr

/-- The bus controller (chapter 1). -/
structure BusController where
  /-- in step with the bus (R2) -/
  inStep : Bool
  phase : Phase
  /-- the five bits of the winning claim code; the low four are the contest rank (R5) -/
  winningCode : Option (BitVec 5)
  header : HeaderView
  /-- this station is a destination of the tenure (R10) -/
  destination : Bool
  /-- count of frames received (R12) -/
  framesReceived : Nat
  /-- frame failures noted for the verdict slot (R12) -/
  frameFailures : Nat
  /-- the echo comparator holds a failure in this station's own tenure (R15) -/
  echoFailed : Bool
  verdict : VerdictSlot
  drive : Drive
  /-- the census answer this station is sending (R46, R49) -/
  answer : Option Answer
  censusHeader : CensusHeaderView
  /-- slot marks of the census in progress -/
  slotMarks : Nat
  /-- an answer has arrived in the present slot -/
  slotAnswered : Bool
  deriving DecidableEq, Repr

/-! ## Membership unit -/

/-- The link states of Figure 3-1. DOWN is held while RESET is asserted. -/
inductive LinkState where
  | down
  | listening
  | joining
  | member
  | leaving
  | out
  deriving DecidableEq, Repr

/-- The reasons of a change of link state (R36). -/
inductive Reason where
  | formed
  | joined
  | collided
  | diverged
  | struck
  | left
  | reset
  deriving DecidableEq, Repr

/-- The reason field of a membership note: a change of link state, or LIST_CHANGED (R53, R60). -/
inductive NoteReason where
  | change (r : Reason)
  | listChanged
  deriving DecidableEq, Repr

/-- A membership timer: whether it runs (R40, R41; log 11). -/
inductive Timer where
  | stopped
  | running
  deriving DecidableEq, Repr

/-- A heard list slot answer: the answerer and its leave flag (R47). -/
structure HeardAnswer where
  id : StationId
  leave : Bool
  deriving DecidableEq, Repr

/-- The record of a census in progress (R45). -/
structure CensusRecord where
  header : CensusHeader
  reference : Option (List Entry)
  /-- for each list slot, the answer heard -/
  answers : List (Option HeardAnswer)
  joiners : List StationId
  diverged : Bool
  /-- closed by a census collision, and kept for the census end that R56 has the station take (log 19) -/
  collided : Bool
  deriving DecidableEq, Repr

/-- The membership unit (chapter 3). -/
structure Membership where
  link : LinkState
  lastReason : Reason
  tenureCounter : Nat
  idleTimer : Timer
  formationTimer : Timer
  /-- the adopted bus mode (R38) -/
  mode : BusMode
  /-- the adopted census interval (R38) -/
  interval : Interval
  idleWant : Bool
  formationWant : Bool
  census : Option CensusRecord
  /-- the pending membership note, with the reason of its latest cause (R60, R61) -/
  note : Option NoteReason
  deriving DecidableEq, Repr

/-! ## Transmit channels -/

/-- R88: pacing of a segment's frame reads. -/
inductive Pacing where
  | free
  | paced
  deriving DecidableEq, Repr

/-- A segment record (Figure 4-1). -/
structure SegmentRecord where
  source : Word
  length : Nat
  dest : Destination
  window : WindowNo
  offset : Option Nat
  tenureSize : Nat
  pacing : Pacing
  repeats : Bool
  notify : Bool
  tag : BitVec 16
  deriving DecidableEq, Repr

/-- The current segment of a channel, with what belongs to it (R66). The source pointer is a byte address; after the
segment's last byte it stands one past it, at most 2^32. -/
structure Segment where
  record : SegmentRecord
  pointer : Nat
  committed : Nat
  held : Nat
  unread : Nat
  retry : Nat
  stopPending : Bool
  deriving DecidableEq, Repr

/-- A frame held in the tenure buffer (Figure 5-2); its index is its position. -/
structure HeldFrame where
  offset : Option Nat
  last : Bool
  payload : List Byte
  deriving DecidableEq, Repr

/-- The ways a segment ends (Figure 4-5). -/
inductive SegmentStatus where
  | done
  | stopped
  | refused
  | noReceiver
  | retryExhausted
  | sourceFault
  deriving DecidableEq, Repr

/-- The fields of a SEGMENT_END record (R69). -/
structure SegmentEnd where
  channel : ChannelNo
  status : SegmentStatus
  tag : BitVec 16
  committed : Nat
  retry : Nat
  repeats : Bool
  notify : Bool
  deriving DecidableEq, Repr

/-- A channel's ending record (R68, R69). -/
structure EndingRecord where
  report : SegmentEnd
  stopTaken : Bool
  deriving DecidableEq, Repr

/-- The channel states (Figure 4-3). -/
inductive ChannelState where
  | idle
  | assembling
  | ready
  | onBus
  | ending
  | halted
  deriving DecidableEq, Repr

/-- One transmit channel (Figures 4-2 and 5-1). -/
structure Channel where
  state : ChannelState
  current : Option Segment
  buffer : List HeldFrame
  /-- the staged queue, head first -/
  staged : List SegmentRecord
  ending : Option EndingRecord
  flushCount : Nat
  readOutstanding : Bool
  /-- the deferred read point (R92) -/
  deferred : Bool
  deriving DecidableEq, Repr

/-! ## Landing unit -/

/-- The window states (Figure 7-2). -/
inductive WindowState where
  | closed
  | opened
  | closing
  | full
  | faulted
  deriving DecidableEq, Repr

/-- The window kinds; ONCE and RING are the STREAM kinds. -/
inductive WindowKind where
  | once
  | ring
  | table
  deriving DecidableEq, Repr

/-- When PROGRESS notes are made (Figure 7-1). -/
inductive NotifyMode where
  | none
  | eachTenure
  | segmentEnd
  deriving DecidableEq, Repr

/-- A window event and pending note; FAULT carries the fault address into the note (R144). -/
inductive WindowEvent where
  | progress
  | full
  | closed
  | fault (address : Word)
  deriving DecidableEq, Repr

/-- One window record (Figure 7-1). -/
structure Window where
  state : WindowState
  kind : WindowKind
  base : Word
  size : Nat
  filter : BitVec 16
  notify : NotifyMode
  /-- accepted offset A -/
  accepted : Word
  /-- commit mark C -/
  commitMark : Word
  /-- visible offset V -/
  visible : Word
  consumed : Word
  ringPos : Nat
  committedFrames : Nat
  lastSender : Option StationId
  faultAddr : Option Word
  note : Option WindowEvent
  deriving DecidableEq, Repr

/-- A queued frame (Figure 8-1); its byte count is its payload's length. -/
structure QueuedFrame where
  window : WindowNo
  sender : StationId
  target : Word
  ringPos : Nat
  last : Bool
  payload : List Byte
  tenure : Nat
  released : Bool
  deriving DecidableEq, Repr

/-- The tenure vote (R121), with the number assigned to the tenure (R136). -/
structure TenureVote where
  window : WindowNo
  sender : StationId
  running : Vote
  accepted : Nat
  tenure : Nat
  deriving DecidableEq, Repr

/-- The landing writer: idle, or writing a part of the frame at the head (R140, R142). -/
inductive Writer where
  | idle
  | first
  | second
  deriving DecidableEq, Repr

/-- The landing unit (chapters 7 and 8). -/
structure Landing where
  windows : Vector Window 16
  /-- the landing queue, head first -/
  queue : List QueuedFrame
  vote : Option TenureVote
  writer : Writer
  deriving DecidableEq, Repr

/-! ## Local memory port -/

/-- A channel's read request (R150). -/
structure ReadRequest where
  addr : Nat
  count : Nat
  deriving DecidableEq, Repr

/-- The landing writer's request (R150). -/
structure WriteRequest where
  addr : Nat
  bytes : List Byte
  deriving DecidableEq, Repr

/-- The access in flight (Figure 9-1). -/
inductive Access where
  | read (c : ChannelNo) (r : ReadRequest)
  | write (w : WriteRequest)
  deriving DecidableEq, Repr

/-- The local memory port (Figure 9-1). -/
structure MemPort where
  inFlight : Option Access
  orphan : Bool
  reads : Vector (Option ReadRequest) 4
  write : Option WriteRequest
  lastServed : ChannelNo
  deriving DecidableEq, Repr

/-! ## Completion log -/

/-- The 21 producers (R158). -/
inductive Producer where
  | membership
  | channel (c : ChannelNo)
  | window (w : WindowNo)
  deriving DecidableEq, Repr

/-- A LANDING record (R144): the value is V, or the fault address for FAULT. -/
structure LandingRecord where
  window : WindowNo
  event : WindowEvent
  value : Word
  frames : Nat
  lastSender : Option StationId
  deriving DecidableEq, Repr

/-- A MEMBERSHIP record (R61). -/
structure MembershipRecord where
  link : LinkState
  reason : NoteReason
  memberCount : Nat
  rank : Option Nat
  mode : BusMode
  interval : Interval
  deriving DecidableEq, Repr

/-- A completion record (Figure 10-1). -/
inductive Record where
  | segmentEnd (e : SegmentEnd)
  | flushed (c : ChannelNo) (count : Nat)
  | landing (l : LandingRecord)
  | membership (m : MembershipRecord)
  deriving DecidableEq, Repr

/-- The completion log (R157, R159). -/
structure CompletionLog where
  records : List Record
  /-- the grant pointer -/
  pointer : Producer
  deriving DecidableEq, Repr

/-! ## Local command port -/

/-- The result codes (Figure 10-4). -/
inductive ResultCode where
  | ok
  | wrongState
  | queueFull
  | badField
  | unknownCommand
  deriving DecidableEq, Repr

/-- The local command port (R165, R171). -/
structure CommandPort where
  words : Vector Word 4
  code : BitVec 8
  result : ResultCode
  results : Vector Word 4
  intEnable : Bool
  deriving DecidableEq, Repr

/-! ## The part -/

/-- The whole state: the nine blocks, the straps as sampled, the PACE levels, and the model's own two fields. -/
structure State where
  straps : Straps
  /-- the levels of PACE0 to PACE3, true for active (R88) -/
  pace : Vector Bool 4
  bus : BusController
  order : OrderUnit
  membership : Membership
  channels : Vector Channel 4
  /-- the turn picker's last channel sent (R96) -/
  lastSent : ChannelNo
  landing : Landing
  port : MemPort
  log : CompletionLog
  cmd : CommandPort
  /-- the model's own: how many free choices have been drawn (log 16) -/
  choices : Nat
  /-- the commands waiting, first in, first out -/
  pending : List Instr
  deriving DecidableEq, Repr

/-- Why a step stops. Every constructor names an event that cannot come about in the state, or an operand that no event
carries; a meaning raises one in place of an effect the spec gives no rule for. All are SAFE: where the model stops the
part simply never is (log 5). -/
inductive Fault where
  /-- SAFE. A bus event at a point of the protocol at which it does not exist: raised by the bus rows in step. -/
  | notAtThisPoint
  /-- SAFE. A contest loss or an echo mismatch of a station that drives nothing it could mismatch. -/
  | notDriving
  /-- SAFE. The expiry of a timer that does not run. -/
  | timerNotRunning
  /-- SAFE. The completion, of the kind named, of an access that is not in flight. -/
  | noSuchCompletion
  /-- SAFE. A read completion whose words are not as many as the access spans (R151). -/
  | wrongWordCount
  /-- SAFE. The release of RESET while it is not asserted. -/
  | resetNotAsserted
  /-- SAFE. An operand that the bus or the port cannot carry (`Instr.wellFormed` refuses it). -/
  | illFormedOperand
  deriving DecidableEq, Repr

/-- Refusals. Only the reserved one: every row of the table has its meaning. -/
inductive Refusal where
  /-- SAFE. A command not modelled yet; no arm answers with it. -/
  | notModelled (mnemonic : String)
  deriving DecidableEq, Repr

/-- What a meaning answers. -/
abbrev Answered := Host.Outcome State Fault Refusal

/-! ## Reset values -/

/-- R2: the bus controller after a reset. The phase has no meaning out of step (log 2). -/
def BusController.reset : BusController :=
  { inStep := false, phase := .silent, winningCode := none, header := .awaited, destination := false,
    framesReceived := 0, frameFailures := 0, echoFailed := false, verdict := .closed, drive := .nothing,
    answer := none, censusHeader := .awaited, slotMarks := 0, slotAnswered := false }

/-- R34: the order list unit after a reset. -/
def OrderUnit.reset : OrderUnit := { list := [], disagree := false }

/-- R37: the membership unit while RESET is asserted. Last reason, mode and interval are the model's (log 2). -/
def Membership.reset : Membership :=
  { link := .down, lastReason := .reset, tenureCounter := 0, idleTimer := .stopped, formationTimer := .stopped,
    mode := .rotate, interval := .t64, idleWant := false, formationWant := false, census := none, note := none }

/-- R82, R97, R115: a channel after a reset. -/
def Channel.reset : Channel :=
  { state := .idle, current := none, buffer := [], staged := [], ending := none, flushCount := 0,
    readOutstanding := false, deferred := false }

/-- R134: a window after a reset. -/
def Window.reset : Window :=
  { state := .closed, kind := .once, base := 0, size := 0, filter := 0, notify := .none, accepted := 0,
    commitMark := 0, visible := 0, consumed := 0, ringPos := 0, committedFrames := 0, lastSender := none,
    faultAddr := none, note := none }

/-- R134, R148: the landing unit after a reset. -/
def Landing.reset : Landing :=
  { windows := Vector.replicate 16 Window.reset, queue := [], vote := none, writer := .idle }

/-- R155: the memory port after a pin reset. -/
def MemPort.reset : MemPort :=
  { inFlight := none, orphan := false, reads := Vector.replicate 4 none, write := none, lastServed := 3 }

/-- R164: the completion log after a reset. -/
def CompletionLog.reset : CompletionLog := { records := [], pointer := .membership }

/-- R171: the command port after a reset. -/
def CommandPort.reset : CommandPort :=
  { words := Vector.replicate 4 0, code := 0, result := .ok, results := Vector.replicate 4 0, intEnable := false }

/-- The part with RESET asserted, before it is released for the first time (log 1, log 2). -/
def State.reset : State :=
  { straps := { id := 0, mode := .rotate, interval := .t64, autoJoin := false },
    pace := Vector.replicate 4 false,
    bus := BusController.reset,
    order := OrderUnit.reset,
    membership := Membership.reset,
    channels := Vector.replicate 4 Channel.reset,
    lastSent := 3,
    landing := Landing.reset,
    port := MemPort.reset,
    log := CompletionLog.reset,
    cmd := CommandPort.reset,
    choices := 0,
    pending := [] }

end Sys2Proof.Machine
end

