-- ==== Sys2Proof/Machine/Operands.lean ====
section
/-! DEFINITION. Operand forms: the fields of the exchange bus and their 16-bit check (R8), the fields of the command
words (Figures 10-9 to 10-11), and the words of an access on the local bus (R151). -/

namespace Sys2Proof.Machine

/-! ## Bits and the check -/

/-- A field of `n` bits, most significant bit first (00_scope, Bus bit order). -/
def bitsOf (n v : Nat) : List Bool := (List.range n).map fun i => v.testBit (n - 1 - i)

/-- One step of the check register of R8: polynomial x^16 + x^12 + x^5 + 1. -/
def checkStep (r : BitVec 16) (b : Bool) : BitVec 16 :=
  if Bool.xor r.msb b then (r <<< 1) ^^^ 0x1021#16 else r <<< 1

/-- R8: the 16-bit check over the covered bits in the order sent; the register starts at all ones, no final inversion. -/
def check16 (bits : List Bool) : BitVec 16 := bits.foldl checkStep 0xFFFF#16

/-- The code of a bus mode on the bus and in the host's words. -/
def modeCode : BusMode → Nat
  | .rotate => 0
  | .fixed => 1

/-- The code of a census interval on the bus and in the host's words. -/
def intervalCode : Interval → Nat
  | .t64 => 0
  | .t256 => 1
  | .t1024 => 2
  | .t4096 => 3

/-- The tenures an interval code stands for (R38). -/
def intervalTenures : Interval → Nat
  | .t64 => 64
  | .t256 => 256
  | .t1024 => 1024
  | .t4096 => 4096

/-- The code of a truth value. -/
def flagCode (b : Bool) : Nat := if b then 1 else 0

/-! ## Destinations -/

/-- The destination encoding, the same on the bus and in the command words: 0 to 15 a station, hex 1F ALL, 16 to 30
none (Figure 10-9). -/
def destOfCode (v : Nat) : Option Destination :=
  if h : v < 16 then some (.station ⟨v, h⟩) else if v = 31 then some .all else none

/-- The destination's code. -/
def destCode : Destination → Nat
  | .station id => id.val
  | .all => 31

/-! ## Tenure headers -/

/-- The eighteen bits the header check covers (R7, Figure 10-15). -/
def wireHeaderBits (h : WireHeader) : List Bool :=
  bitsOf 4 h.sender.val ++ bitsOf 2 h.channel.val ++ bitsOf 3 h.countField.val ++ bitsOf 5 h.destField.val ++
    bitsOf 4 h.window.val

/-- R9: a header is good when its check is good and its destination field names a station or ALL. -/
def goodHeader (h : WireHeader) : Option Header :=
  if check16 (wireHeaderBits h) = h.check then
    (destOfCode h.destField.val).map fun d =>
      { sender := h.sender, channel := h.channel, frameCount := h.countField.val + 1, dest := d, window := h.window }
  else none

/-- R7: a header put on the bus, its check computed over its fields. -/
def sealHeader (sender : StationId) (channel : ChannelNo) (countField : Fin 8) (destField : Fin 32)
    (window : WindowNo) : WireHeader :=
  let h : WireHeader :=
    { sender := sender, channel := channel, countField := countField, destField := destField, window := window, check := 0 }
  { h with check := check16 (wireHeaderBits h) }

/-! ## Frames -/

/-- The bits of the payload, byte by byte in the order sent. -/
def payloadBits (payload : List Byte) : List Bool := payload.flatMap fun b => bitsOf 8 b.toNat

/-- The bits the frame check covers: every field but the mark; an absent offset contributes its presence bit alone
(R8, Figure 10-16). -/
def wireFrameBits (f : WireFrame) : List Bool :=
  bitsOf 3 f.index.val ++
    (match f.offset with
      | some o => true :: bitsOf 20 o.toNat
      | none => [false]) ++
    bitsOf 6 (f.payload.length - 1) ++ [f.last] ++ payloadBits f.payload

/-- R12, condition 3. -/
def frameCheckGood (f : WireFrame) : Bool := check16 (wireFrameBits f) == f.check

/-- R11: a frame put on the bus. -/
def sealFrame (index : Fin 8) (offset : Option (BitVec 20)) (last : Bool) (payload : List Byte) : WireFrame :=
  let f : WireFrame := { index := index, offset := offset, last := last, payload := payload, check := 0 }
  { f with check := check16 (wireFrameBits f) }

/-! ## Census fields -/

/-- The twelve bits the census header check covers (Figure 10-17). -/
def wireCensusHeaderBits (h : WireCensusHeader) : List Bool :=
  bitsOf 4 h.claimant.val ++ bitsOf 5 h.slots.val ++ bitsOf 1 (modeCode h.mode) ++ bitsOf 2 (intervalCode h.interval)

/-- R21, R45: a census header is good when its check is good and its slot count is at most 16. -/
def goodCensusHeader (h : WireCensusHeader) : Option CensusHeader :=
  if check16 (wireCensusHeaderBits h) = h.check ∧ h.slots.val ≤ 16 then
    some { claimant := h.claimant, slots := h.slots.val, mode := h.mode, interval := h.interval }
  else none

/-- A census header put on the bus (R44). -/
def sealCensusHeader (claimant : StationId) (slots : Fin 32) (mode : BusMode) (interval : Interval) : WireCensusHeader :=
  let h : WireCensusHeader := { claimant := claimant, slots := slots, mode := mode, interval := interval, check := 0 }
  { h with check := check16 (wireCensusHeaderBits h) }

/-- The bits a list slot answer's check covers (Figure 10-17). -/
def wireListAnswerBits (a : WireListAnswer) : List Bool :=
  bitsOf 4 a.id.val ++ [a.leave] ++ bitsOf 5 a.entries.length ++
    a.entries.flatMap fun e => bitsOf 4 e.id.val ++ bitsOf 2 e.miss.val

/-- A list slot answer put on the bus (R46). -/
def sealListAnswer (id : StationId) (leave : Bool) (entries : List WireEntry) : WireListAnswer :=
  let a : WireListAnswer := { id := id, leave := leave, entries := entries, check := 0 }
  { a with check := check16 (wireListAnswerBits a) }

/-- An order list as the entries of a list copy (R33, R46). -/
def listCopy (list : List Entry) : List WireEntry :=
  list.map fun e => { id := e.id, miss := ⟨e.miss.val, Nat.lt_succ_of_lt e.miss.isLt⟩ }

/-- The entry a list copy's entry stands for: none for a miss count above 2. -/
def entryOfWire (e : WireEntry) : Option Entry :=
  if h : e.miss.val < 3 then some { id := e.id, miss := ⟨e.miss.val, h⟩ } else none

/-- Whether a list holds no station ID twice (R24). -/
def distinctIds : List Entry → Bool
  | [] => true
  | e :: rest => !(rest.any fun f => f.id == e.id) && distinctIds rest

/-- R47: the list of a well-formed list copy: at most 16 entries, no station ID twice, no miss count above 2. -/
def listOfCopy (entries : List WireEntry) : Option (List Entry) :=
  match entries.mapM entryOfWire with
  | some list => if list.length ≤ 16 ∧ distinctIds list = true then some list else none
  | none => none

/-- R47: the list of a heard list slot answer, whose check is good and whose copy is well formed. -/
def heardList (a : WireListAnswer) : Option (List Entry) :=
  if check16 (wireListAnswerBits a) = a.check then listOfCopy a.entries else none

/-- R49: the check of a join slot answer, over the station ID. -/
def joinCheck (id : StationId) : BitVec 16 := check16 (bitsOf 4 id.val)

/-- A join slot answer put on the bus (R49). -/
def sealJoinAnswer (id : StationId) : WireJoinAnswer := { id := id, check := joinCheck id }

/-! ## Claim codes and straps -/

/-- R4: the five bits of a claim: kind bit, then the station ID or the rank. -/
def claimCode (id : StationId) : Claim → BitVec 5
  | .census _ => BitVec.ofNat 5 id.val
  | .tenure rank => BitVec.ofNat 5 (16 + rank)

/-- R5: the contest rank is the four bits after the kind bit. -/
def contestRankOf (code : BitVec 5) : Nat := code.toNat % 16

/-- R1: the kind bit of a claim code: true for a tenure claim. -/
def tenureKind (code : BitVec 5) : Bool := code.msb

/-- Figure 3-4: the interval strapped by CINT1 and CINT0. -/
def strappedInterval (cint1 cint0 : Bool) : Interval :=
  match cint1, cint0 with
  | false, false => .t64
  | false, true => .t256
  | true, false => .t1024
  | true, true => .t4096

/-- R37, Figure 3-4: the straps as sampled from the pin levels; SID3 is the most significant bit. -/
def sampleStraps (p : StrapPins) : Straps :=
  { id := Fin.ofNat 16 (8 * flagCode p.sid3 + 4 * flagCode p.sid2 + 2 * flagCode p.sid1 + flagCode p.sid0)
    mode := if p.mode then .fixed else .rotate
    interval := strappedInterval p.cint1 p.cint0
    autoJoin := p.autoJ }

/-! ## Fields of 32-bit words -/

/-- The field of `n` bits of a word from bit `lo` up. -/
def getField (w : Word) (lo n : Nat) : Nat := (w.toNat >>> lo) % 2 ^ n

/-- A value placed in a word from bit `lo` up. -/
def putField (lo v : Nat) : Word := BitVec.ofNat 32 (v <<< lo)

/-- Byte `i` of a word; byte lane 0 is the lowest (R151). -/
def byteOf (w : Word) (i : Nat) : Byte := BitVec.ofNat 8 (w.toNat >>> (8 * i))

/-- R166: the channel number of a command: bits 7:0 of command word 0, which must be 0 to 3. -/
def channelField (w : Word) : Option ChannelNo :=
  if h : getField w 0 8 < 4 then some ⟨getField w 0 8, h⟩ else none

/-- R126: the window number of a command: bits 7:0 of command word 0, which must be 0 to 15. -/
def windowField (w : Word) : Option WindowNo :=
  if h : getField w 0 8 < 16 then some ⟨getField w 0 8, h⟩ else none

/-! ## PUSH -/

/-- The checks of R63 that a segment record itself can fail: length, tenure size, the top of the address space, and the
offsets of its frames. -/
def SegmentRecord.valid (r : SegmentRecord) : Bool :=
  decide (1 ≤ r.length) && decide (r.length ≤ Config.maxSpan) && decide (1 ≤ r.tenureSize) && decide (r.tenureSize ≤ 8) &&
    decide (r.source.toNat + r.length ≤ Config.addressSpace) &&
    (match r.offset with
      | some o => decide (o + r.length ≤ Config.maxSpan)
      | none => true)

/-- R63, Figure 10-10: the channel and record of a PUSH, or none where any field is out of range. -/
def pushFields (words : Vector Word 4) : Option (ChannelNo × SegmentRecord) :=
  let w2 := words[2]
  let w3 := words[3]
  if hc : getField w3 24 8 < 4 then
    match destOfCode (getField w2 0 5) with
    | none => none
    | some dest =>
      let r : SegmentRecord :=
        { source := words[0]
          length := words[1].toNat
          dest := dest
          window := Fin.ofNat 16 (getField w2 8 4)
          offset := if w3.getLsbD 23 then some (getField w3 0 20) else none
          tenureSize := getField w2 12 4
          pacing := if w3.getLsbD 20 then .paced else .free
          repeats := w3.getLsbD 21
          notify := w3.getLsbD 22
          tag := BitVec.ofNat 16 (getField w2 16 16) }
      if r.valid then some (⟨getField w3 24 8, hc⟩, r) else none
  else none

/-- Figure 10-10: the command words by which a host pushes a record. -/
def pushWords (c : ChannelNo) (r : SegmentRecord) : Vector Word 4 :=
  #v[r.source, BitVec.ofNat 32 r.length,
    putField 0 (destCode r.dest) ||| putField 8 r.window.val ||| putField 12 r.tenureSize ||| putField 16 r.tag.toNat,
    putField 0 (r.offset.getD 0) ||| putField 20 (flagCode (r.pacing == .paced)) ||| putField 21 (flagCode r.repeats) |||
      putField 22 (flagCode r.notify) ||| putField 23 (flagCode r.offset.isSome) ||| putField 24 c.val]

/-! ## OPEN -/

/-- The fields that OPEN carries (R127). -/
structure OpenFields where
  kind : WindowKind
  notify : NotifyMode
  base : Word
  size : Nat
  filter : BitVec 16
  deriving DecidableEq, Repr

/-- Figure 10-11: the kind codes; 3 is out of range. -/
def kindOfCode : Nat → Option WindowKind
  | 0 => some .once
  | 1 => some .ring
  | 2 => some .table
  | _ => none

/-- Figure 10-11: the notify codes; 3 is out of range. -/
def notifyOfCode : Nat → Option NotifyMode
  | 0 => some .none
  | 1 => some .eachTenure
  | 2 => some .segmentEnd
  | _ => none

/-- The kind's code. -/
def kindCode : WindowKind → Nat
  | .once => 0
  | .ring => 1
  | .table => 2

/-- The notify mode's code. -/
def notifyCode : NotifyMode → Nat
  | .none => 0
  | .eachTenure => 1
  | .segmentEnd => 2

/-- The checks of R127 on base, size and filter. -/
def OpenFields.valid (f : OpenFields) : Bool :=
  decide (f.base.toNat % 4 = 0) && decide (1 ≤ f.size) && decide (f.size ≤ Config.maxSpan) &&
    decide (f.base.toNat + f.size ≤ Config.addressSpace) && decide (f.filter ≠ 0)

/-- R127, Figure 10-11: the window and fields of an OPEN, or none where any is out of range. -/
def openFields (words : Vector Word 4) : Option (WindowNo × OpenFields) :=
  match windowField words[0], kindOfCode (getField words[0] 8 2), notifyOfCode (getField words[0] 12 2) with
  | some w, some kind, some notify =>
    let f : OpenFields :=
      { kind := kind, notify := notify, base := words[1], size := words[2].toNat,
        filter := BitVec.ofNat 16 (getField words[3] 0 16) }
    if f.valid then some (w, f) else none
  | _, _, _ => none

/-- Figure 10-11: the command words by which a host opens a window. -/
def openWords (w : WindowNo) (f : OpenFields) : Vector Word 4 :=
  #v[putField 0 w.val ||| putField 8 (kindCode f.kind) ||| putField 12 (notifyCode f.notify), f.base,
    BitVec.ofNat 32 f.size, putField 0 f.filter.toNat]

/-! ## Accesses on the local bus -/

/-- R151: the words that an access of `n` bytes at address `a` spans. -/
def accessSpan (a n : Nat) : Nat := (a % 4 + n + 3) / 4

/-- R151: the bytes of a word in address order; byte lane 0 carries the lowest address. -/
def wordBytes (w : Word) : List Byte := [byteOf w 0, byteOf w 1, byteOf w 2, byteOf w 3]

/-- R151: the bytes of a read, taken from the enabled lanes of the words answered and assembled in address order. -/
def readBytes (a n : Nat) (words : List Word) : List Byte := ((words.flatMap wordBytes).drop (a % 4)).take n

/-- One word transfer of an access: its word address, byte enables and, for a write, data. -/
structure Transfer where
  addr : Nat
  enables : BitVec 4
  data : Word
  deriving DecidableEq, Repr

/-- R151: lane `l` of the word at `word` belongs to an access of `n` bytes at `a`. -/
def laneEnabled (a n word l : Nat) : Bool := decide (a ≤ word + l) && decide (word + l < a + n)

/-- R151: the byte enables of the word at `word`. -/
def laneEnables (a n word : Nat) : BitVec 4 :=
  BitVec.ofNat 4 (flagCode (laneEnabled a n word 0) + 2 * flagCode (laneEnabled a n word 1) +
    4 * flagCode (laneEnabled a n word 2) + 8 * flagCode (laneEnabled a n word 3))

/-- The data lane `l` of the word at `word` carries in a write of `bytes` at `a`. R151 gives no value for a lane that is not
enabled; that it carries 0 is the model's choice (log 30). -/
def laneData (a : Nat) (bytes : List Byte) (word l : Nat) : Nat :=
  if laneEnabled a bytes.length word l then (bytes.getD (word + l - a) 0).toNat else 0

/-- R151: the transfers of an access, in ascending address order. `bytes` is empty for a read, whose transfers then show data
0: the model's choice (log 30). -/
def transfers (a n : Nat) (bytes : List Byte) : List Transfer :=
  (List.range (accessSpan a n)).map fun i =>
    let word := a / 4 * 4 + 4 * i
    { addr := word
      enables := laneEnables a n word
      data := BitVec.ofNat 32 (laneData a bytes word 0 + 256 * laneData a bytes word 1 + 65536 * laneData a bytes word 2 +
        16777216 * laneData a bytes word 3) }

/-- The transfers of the access in flight. -/
def accessTransfers : Access → List Transfer
  | .read _ r => transfers r.addr r.count []
  | .write w => transfers w.addr w.bytes.length w.bytes

/-- R151: the bursts of an access: one of up to 16 words, and a second for the seventeenth word. -/
def accessBursts (x : Access) : List (List Transfer) :=
  if (accessTransfers x).length ≤ 16 then [accessTransfers x]
  else [(accessTransfers x).take 16, (accessTransfers x).drop 16]

/-! ## Codes shown to the host -/

/-- Figure 10-7. -/
def linkCode : LinkState → Nat
  | .down => 0
  | .listening => 1
  | .joining => 2
  | .member => 3
  | .leaving => 4
  | .out => 5

/-- Figure 10-14. -/
def reasonCode : NoteReason → Nat
  | .change .formed => 0
  | .change .joined => 1
  | .change .collided => 2
  | .change .diverged => 3
  | .change .struck => 4
  | .change .left => 5
  | .change .reset => 6
  | .listChanged => 7

/-- Figure 10-12. -/
def channelStateCode : ChannelState → Nat
  | .idle => 0
  | .assembling => 1
  | .ready => 2
  | .onBus => 3
  | .ending => 4
  | .halted => 5

/-- Figure 10-12: the ending status codes; 7 is no status. -/
def statusCode : SegmentStatus → Nat
  | .done => 0
  | .stopped => 1
  | .refused => 2
  | .noReceiver => 3
  | .retryExhausted => 4
  | .sourceFault => 5

/-- Figure 10-13. -/
def windowStateCode : WindowState → Nat
  | .closed => 0
  | .opened => 1
  | .closing => 2
  | .full => 3
  | .faulted => 4

/-- Figure 10-14. -/
def eventCode : WindowEvent → Nat
  | .progress => 0
  | .full => 1
  | .closed => 2
  | .fault _ => 3

/-- Figure 10-6. -/
def resultCodeValue : ResultCode → Nat
  | .ok => 0
  | .wrongState => 1
  | .queueFull => 2
  | .badField => 3
  | .unknownCommand => 4

/-- An optional station ID as the value of its field; 0 when absent is the model's choice (log 29). -/
def optionalId : Option StationId → Nat
  | some id => id.val
  | none => 0

end Sys2Proof.Machine
end

