-- ==== Sys2Proof/Machine/Flags.lean ====
section
/-! DEFINITION. What the part computes from its state: rank and member count, the wants and the start mark it begins,
INT, the words of the register window, and what it puts on the bus. -/

namespace Sys2Proof.Machine

/-- R25: the own rank, the position of the own station ID in the own list. -/
def State.ownRank (s : State) : Option Nat := s.order.list.findIdx? fun e => e.id == s.straps.id

/-- R25: the member count. -/
def State.memberCount (s : State) : Nat := s.order.list.length

/-- R5: the contest rank, while one is recorded. -/
def State.contestRank (s : State) : Option Nat := s.bus.winningCode.map contestRankOf

/-- The channel record of a channel. -/
def State.chan (s : State) (c : ChannelNo) : Channel := s.channels[c]

/-- The window record of a window. -/
def State.win (s : State) (w : WindowNo) : Window := s.landing.windows[w]

/-- A channel that is a candidate of the turn picker (R67). -/
def State.isReady (s : State) (c : ChannelNo) : Bool := (s.chan c).state == .ready

/-- The four channels. -/
def allChannels : List ChannelNo := [0, 1, 2, 3]

/-- The sixteen windows, and the sixteen station IDs, in ascending order. -/
def allSixteen : List (Fin 16) := [0, 1, 2, 3, 4, 5, 6, 7, 8, 9, 10, 11, 12, 13, 14, 15]

/-! ## Wants -/

/-- R42, R43: the membership unit asks for a census claim. -/
def State.wantsCensus (s : State) : Bool :=
  let m := s.membership
  match m.link with
  | .member | .leaving =>
    (decide (intervalTenures m.interval ≤ m.tenureCounter) && (s.ownRank == some 0)) ||
      decide (intervalTenures m.interval + Config.graceTenures ≤ m.tenureCounter) || m.idleWant
  | .listening => m.formationWant
  | .down | .joining | .out => false

/-- R93: the station wants a tenure. -/
def State.wantsTenure (s : State) : Bool :=
  (s.membership.link == .member) && s.ownRank.isSome && s.bus.inStep && allChannels.any s.isReady

/-- R3, R4: the claim with which the station contends at a start mark, if it wants the bus; a census claim comes before
a tenure claim. -/
def State.claim (s : State) : Option Claim :=
  if s.wantsCensus then some (.census (s.membership.link == .listening))
  else if s.wantsTenure then s.ownRank.map .tenure
  else none

/-- The bus controller follows the bus: in step, and not DOWN (R1, R2). -/
def State.follows (s : State) : Bool := s.bus.inStep && !(s.membership.link == .down)

/-- R3: the station begins a start mark: the bus is SILENT (or at a contest point) and the station wants it (log 8). -/
def State.beginsStartMark (s : State) : Bool := s.follows && (s.bus.phase == .silent) && s.claim.isSome

/-! ## INT and the register window -/

/-- R163: INT is active while the log holds a record and the interrupt enable is set. -/
def State.intLevel (s : State) : Bool := !s.log.records.isEmpty && s.cmd.intEnable

/-- R168, Figure 10-7: the station status word. -/
def State.statusWord (s : State) : Word :=
  putField 0 (linkCode s.membership.link) ||| putField 4 s.straps.id.val ||| putField 8 (flagCode s.ownRank.isSome) |||
    putField 12 (s.ownRank.getD 0) ||| putField 16 s.memberCount ||| putField 21 (modeCode s.membership.mode) |||
    putField 22 (intervalCode s.membership.interval) ||| putField 24 (flagCode s.order.disagree) |||
    putField 26 s.log.records.length

/-- Figure 10-8: the log control word as read; the POP bit reads 0. -/
def State.logControlWord (s : State) : Word :=
  putField 0 (flagCode s.cmd.intEnable) ||| putField 2 (flagCode s.intLevel) ||| putField 8 s.log.records.length

/-- Figure 10-14: the four words of a completion record. The figure gives no value for the own rank of a MEMBERSHIP record
whose rank is absent, nor for the last sender of a LANDING record where it is absent; that the model shows 0 in bits 19:16
is its choice (log 29). -/
def recordWords : Record → Vector Word 4
  | .segmentEnd e =>
    #v[putField 0 1 ||| putField 4 e.channel.val ||| putField 8 (statusCode e.status) ||| putField 12 (flagCode e.repeats) |||
        putField 13 (flagCode e.notify) ||| putField 16 e.tag.toNat,
      putField 0 e.committed, putField 0 e.retry, 0]
  | .flushed c count => #v[putField 0 2 ||| putField 4 c.val, putField 0 count, 0, 0]
  | .landing l =>
    #v[putField 0 3 ||| putField 4 l.window.val ||| putField 8 (eventCode l.event) |||
        putField 12 (flagCode l.lastSender.isSome) ||| putField 16 (optionalId l.lastSender),
      l.value, putField 0 l.frames, 0]
  | .membership m =>
    #v[putField 0 4 ||| putField 4 (linkCode m.link) ||| putField 8 (reasonCode m.reason) |||
        putField 12 (flagCode m.rank.isSome) ||| putField 16 (m.rank.getD 0) ||| putField 20 m.memberCount |||
        putField 25 (modeCode m.mode) ||| putField 26 (intervalCode m.interval),
      0, 0, 0]

/-- R162: the record words show the head of the log, or kind EMPTY with every other field 0. -/
def State.headWords (s : State) : Vector Word 4 :=
  match s.log.records with
  | [] => Vector.replicate 4 0
  | r :: _ => recordWords r

/-- R165, R168, R169, R170, Figure 10-6: what a read of a word of the register window returns. While RESET is asserted
every word reads 0 (result code OK and link state DOWN are encoded 0). -/
def State.readWord (s : State) (index : Fin 16) : Word :=
  if s.membership.link = .down then 0
  else
    match index.val with
    | 0 => s.cmd.words[0]
    | 1 => s.cmd.words[1]
    | 2 => s.cmd.words[2]
    | 3 => s.cmd.words[3]
    | 4 => putField 0 s.cmd.code.toNat
    | 5 => putField 0 (resultCodeValue s.cmd.result)
    | 6 => s.cmd.results[0]
    | 7 => s.cmd.results[1]
    | 8 => s.cmd.results[2]
    | 9 => s.cmd.results[3]
    | 10 => s.statusWord
    | 11 => s.logControlWord
    | 12 => s.headWords[0]
    | 13 => s.headWords[1]
    | 14 => s.headWords[2]
    | _ => s.headWords[3]

/-! ## What the station puts on the bus -/

/-- R4, R26: the claim code this station drives, if it is a contender. -/
def State.claimCodeSent (s : State) : Option (BitVec 5) :=
  match s.bus.drive with
  | .claim c => some (claimCode s.straps.id c)
  | .nothing | .tenure _ | .census _ _ => none

/-- R7: the header of the tenure this station drives, filled from its own state and its ON_BUS channel. -/
def State.headerSent (s : State) : Option WireHeader :=
  match s.bus.drive with
  | .tenure c =>
    (s.chan c).current.map fun seg =>
      sealHeader s.straps.id c (Fin.ofNat 8 ((s.chan c).buffer.length - 1)) (Fin.ofNat 32 (destCode seg.record.dest))
        seg.record.window
  | .nothing | .claim _ | .census _ _ => none

/-- R11: a held frame as sent, its index its position in the tenure buffer. -/
def frameSent (i : Nat) (f : HeldFrame) : WireFrame :=
  sealFrame (Fin.ofNat 8 i) (f.offset.map (BitVec.ofNat 20)) f.last f.payload

/-- Frames numbered from `i` on. -/
def framesFrom (i : Nat) : List HeldFrame → List WireFrame
  | [] => []
  | f :: rest => frameSent i f :: framesFrom (i + 1) rest

/-- R7, R11: the frames of the tenure this station drives, in frame index order. -/
def State.framesSent (s : State) : List WireFrame :=
  match s.bus.drive with
  | .tenure c => framesFrom 0 (s.chan c).buffer
  | .nothing | .claim _ | .census _ _ => []

/-- R17: the verdict line this station raises. -/
def State.lineRaised (s : State) : Option Vote :=
  match s.bus.verdict with
  | .opened line => line
  | .closed => none

/-- R44: the census header this station drives as claimant. -/
def State.censusHeaderSent (s : State) : Option WireCensusHeader :=
  match s.bus.drive with
  | .census h .header => some (sealCensusHeader h.claimant (Fin.ofNat 32 h.slots) h.mode h.interval)
  | .census _ (.slotMark _) | .census _ (.slotTime _) | .census _ .endMark | .nothing | .claim _ | .tenure _ => none

/-- R46: the list slot answer this station sends. -/
def State.listAnswerSent (s : State) : Option WireListAnswer :=
  match s.bus.answer with
  | some (.list id leave copy) => some (sealListAnswer id leave (listCopy copy))
  | some (.join _) | none => none

/-- R49: the join slot answer this station sends. -/
def State.joinAnswerSent (s : State) : Option WireJoinAnswer :=
  match s.bus.answer with
  | some (.join id) => some (sealJoinAnswer id)
  | some (.list _ _ _) | none => none

end Sys2Proof.Machine
end

