-- ==== Sys2Proof/Machine/Ops.lean ====
section
/-! DEFINITION. The operations that several commands share, block by block. A meaning is one of these or a few of them in
the order its rules give. -/

namespace Sys2Proof.Machine

/-! ## Updates of one block -/

def State.setStraps (s : State) (x : Straps) : State := { s with straps := x }
def State.setPace (s : State) (x : Vector Bool 4) : State := { s with pace := x }
def State.setBus (s : State) (x : BusController) : State := { s with bus := x }
def State.setOrder (s : State) (x : OrderUnit) : State := { s with order := x }
def State.setMembership (s : State) (x : Membership) : State := { s with membership := x }
def State.setChannels (s : State) (x : Vector Channel 4) : State := { s with channels := x }
def State.setLastSent (s : State) (x : ChannelNo) : State := { s with lastSent := x }
def State.setLanding (s : State) (x : Landing) : State := { s with landing := x }
def State.setPort (s : State) (x : MemPort) : State := { s with port := x }
def State.setLog (s : State) (x : CompletionLog) : State := { s with log := x }
def State.setCmd (s : State) (x : CommandPort) : State := { s with cmd := x }
def State.setChoices (s : State) (x : Nat) : State := { s with choices := x }

/-- Replace one channel record. -/
def State.setChan (s : State) (c : ChannelNo) (x : Channel) : State := s.setChannels (s.channels.set c x)

/-- Replace one window record. -/
def State.setWin (s : State) (w : WindowNo) (x : Window) : State :=
  s.setLanding { s.landing with windows := s.landing.windows.set w x }

/-- Replace the landing queue. -/
def State.setQueue (s : State) (q : List QueuedFrame) : State := s.setLanding { s.landing with queue := q }

/-- Draw the next free choice (log 16). -/
def State.draw (s : State) : Bool × State := (Config.firstReport s.choices, s.setChoices (s.choices + 1))

/-! ## The local memory port -/

/-- The channels in number order from the one after `c`, wrapping, with `c` itself last (R95, R153). -/
def channelsAfter (c : ChannelNo) : List ChannelNo := [c + 1, c + 2, c + 3, c]

/-- R153: the arbiter's choice with no access in flight: a waiting landing write first, otherwise the next channel read
after the last-served channel. -/
def MemPort.serve (p : MemPort) : MemPort :=
  match p.write with
  | some w => { p with inFlight := some (.write w), write := none }
  | none =>
    match (channelsAfter p.lastServed).findSome? fun c => p.reads[c].map fun r => (c, r) with
    | some (c, r) => { p with inFlight := some (.read c r), reads := p.reads.set c none, lastServed := c }
    | none => p

/-- R153, R154: a request just placed is served at once when no access is in flight, and otherwise waits. -/
def MemPort.settle (p : MemPort) : MemPort := if p.inFlight.isNone then p.serve else p

/-- R150: a channel places a read request. -/
def MemPort.requestRead (p : MemPort) (c : ChannelNo) (r : ReadRequest) : MemPort :=
  { p with reads := p.reads.set c (some r) }.settle

/-- R150: the landing writer places a write request. -/
def MemPort.requestWrite (p : MemPort) (w : WriteRequest) : MemPort := { p with write := some w }.settle

/-- R152, R153, R156: the access in flight has completed and its answer has been taken; the arbiter chooses among the
requests then waiting. -/
def MemPort.finish (p : MemPort) : MemPort := { p with inFlight := none, orphan := false }.serve

/-- The completion of the access in flight, after its requester has acted. -/
def State.finishAccess (s : State) : State := s.setPort s.port.finish

/-! ## Frame reads of a channel -/

/-- R84: the channel makes its read request: the source pointer, and 64 bytes or the unread bytes if fewer. -/
def State.requestRead (s : State) (c : ChannelNo) : State :=
  match (s.chan c).current with
  | none => s
  | some seg =>
    (s.setChan c { s.chan c with readOutstanding := true }).setPort
      (s.port.requestRead c { addr := seg.pointer, count := min Config.frameBytes seg.unread })

/-- R84, R88, R92: a read point. Behind a stale read it is deferred; a FREE segment requests; a PACED one samples PACE
and requests, becomes READY with the frames held, or waits with none held. -/
def State.readPoint (s : State) (c : ChannelNo) : State :=
  match (s.chan c).current with
  | none => s
  | some seg =>
    if (s.chan c).readOutstanding then s.setChan c { s.chan c with deferred := true }
    else
      match seg.record.pacing, s.pace[c] with
      | .free, _ => s.requestRead c
      | .paced, true => s.requestRead c
      | .paced, false =>
        if (s.chan c).buffer.isEmpty then s else s.setChan c { s.chan c with state := .ready }

/-- R92: the channel's outstanding read belongs to a segment that has ended. -/
def Channel.readIsStale (ch : Channel) : Bool := !(ch.state == .assembling) || ch.deferred

/-- R89: the channel waits for PACE with no frame held: ASSEMBLING a PACED segment with no read outstanding. -/
def Channel.waitsForPace (ch : Channel) : Bool :=
  (ch.state == .assembling) && !ch.readOutstanding &&
    match ch.current with
    | some seg => seg.record.pacing == .paced
    | none => false

/-! ## Starting and ending segments -/

/-- R66: the values of a segment as it becomes current. -/
def segmentOf (r : SegmentRecord) : Segment :=
  { record := r, pointer := r.source.toNat, committed := 0, held := 0, unread := r.length, retry := 0, stopPending := false }

/-- R66: a record becomes the current segment, `staged` being left in the staged queue; the first read point follows. -/
def State.startSegment (s : State) (c : ChannelNo) (r : SegmentRecord) (staged : List SegmentRecord) : State :=
  (s.setChan c
    { s.chan c with state := .assembling, current := some (segmentOf r), buffer := [], ending := none,
                    staged := staged }).readPoint c

/-- The channel gives up its ended segment and enters IDLE or HALTED (R72, R76). -/
def State.retire (s : State) (c : ChannelNo) (state : ChannelState) : State :=
  s.setChan c { s.chan c with state := state, current := none, ending := none }

/-- R72, R73, R76: the channel leaves ENDING. A DONE segment without the stop-taken mark hands over to the staged head,
a repeat copy being staged last, or becoming current where nothing is staged; any other end leads to HALTED. -/
def State.leaveEnding (s : State) (c : ChannelNo) (e : EndingRecord) : State :=
  match (s.chan c).current with
  | some seg =>
    if e.report.status = .done ∧ e.stopTaken = false then
      match (s.chan c).staged, seg.record.repeats with
      | r :: rest, true => s.startSegment c r (rest ++ [seg.record])
      | r :: rest, false => s.startSegment c r rest
      | [], true => s.startSegment c seg.record []
      | [], false => s.retire c .idle
    else s.retire c .halted
  | none => s.retire c .halted

/-! ## The completion log -/

/-- R158: the producer has something to place. -/
def State.waiting (s : State) : Producer → Bool
  | .membership => s.membership.note.isSome
  | .channel c => (s.chan c).ending.isSome || decide (0 < (s.chan c).flushCount)
  | .window w => (s.win w).note.isSome

/-- R159: the producers in their fixed order. -/
def allProducers : List Producer := .membership :: (allChannels.map .channel ++ allSixteen.map .window)

/-- R159: the order in which the log looks: from the producer after the grant pointer round to the pointer itself. -/
def searchOrder (p : Producer) : List Producer :=
  (allProducers.dropWhile fun q => q ≠ p).drop 1 ++ (allProducers.takeWhile fun q => q ≠ p) ++ [p]

/-- R159: the producer that the next slot goes to. -/
def State.nextWaiting (s : State) : Option Producer := (searchOrder s.log.pointer).find? s.waiting

/-- R157, R159: a record enters at the tail and the grant pointer moves to its producer. -/
def State.place (s : State) (p : Producer) (r : Record) : State :=
  s.setLog { records := s.log.records ++ [r], pointer := p }

/-- R61: the MEMBERSHIP record as it stands at the grant. -/
def State.membershipRecord (s : State) (n : NoteReason) : Record :=
  .membership
    { link := s.membership.link, reason := n, memberCount := s.memberCount, rank := s.ownRank,
      mode := s.membership.mode, interval := s.membership.interval }

/-- R144: the value word of a LANDING record: V, or the fault address held in a FAULT note. -/
def landingValue (visible : Word) : WindowEvent → Word
  | .progress => visible
  | .full => visible
  | .closed => visible
  | .fault address => address

/-- R144: the LANDING record as it stands at the grant. -/
def State.landingRecord (s : State) (w : WindowNo) (e : WindowEvent) : Record :=
  .landing
    { window := w, event := e, value := landingValue (s.win w).visible e, frames := (s.win w).committedFrames,
      lastSender := (s.win w).lastSender }

/-- R61: the grant to the membership unit. -/
def State.grantMembership (s : State) : State :=
  match s.membership.note with
  | none => s
  | some n =>
    (s.place .membership (s.membershipRecord n)).setMembership { s.membership with note := none }

/-- R71, R80: the grant to a channel: its SEGMENT_END record if it is ENDING, which it then leaves, and otherwise its
FLUSHED record. -/
def State.grantChannel (s : State) (c : ChannelNo) : State :=
  match (s.chan c).ending with
  | some e => (s.place (.channel c) (.segmentEnd e.report)).leaveEnding c e
  | none =>
    if 0 < (s.chan c).flushCount then
      (s.place (.channel c) (.flushed c (s.chan c).flushCount)).setChan c { s.chan c with flushCount := 0 }
    else s

/-- R144: the grant to a window. -/
def State.grantWindow (s : State) (w : WindowNo) : State :=
  match (s.win w).note with
  | none => s
  | some e =>
    (s.place (.window w) (s.landingRecord w e)).setWin w { s.win w with note := none, committedFrames := 0 }

/-- R160: a grant: the producer places one record. -/
def State.grant (s : State) : Producer → State
  | .membership => s.grantMembership
  | .channel c => s.grantChannel c
  | .window w => s.grantWindow w

/-- R160: the log has a free slot. -/
def State.logHasRoom (s : State) : Bool := decide (s.log.records.length < Config.logCapacity)

/-- R160, first case: a producer that becomes waiting while the log has room is granted at that event. -/
def State.offer (s : State) (p : Producer) : State := if s.logHasRoom then s.grant p else s

/-- R160, second case: the freed slot goes to the first waiting producer of R159, if there is one. -/
def State.grantFreed (s : State) : State :=
  if s.logHasRoom then
    match s.nextWaiting with
    | some p => s.grant p
    | none => s
  else s

/-! ## Segment end -/

/-- R69: the ending record. The stop-taken mark is set for STOPPED and for any end with a stop pending (R68). -/
def endingOf (c : ChannelNo) (seg : Segment) (status : SegmentStatus) : EndingRecord :=
  { report :=
      { channel := c, status := status, tag := seg.record.tag, committed := seg.committed, retry := seg.retry,
        repeats := seg.record.repeats, notify := seg.record.notify }
    stopTaken := (status == .stopped) || seg.stopPending }

/-- R68, R107: the segment `seg` ends with a status: frames still held are discarded and their bytes returned to the
unread bytes, the ending record is formed, and the channel waits in ENDING for its grant. -/
def State.endSegment (s : State) (c : ChannelNo) (seg : Segment) (status : SegmentStatus) : State :=
  (s.setChan c
    { s.chan c with
      state := .ending
      current := some { seg with held := 0, unread := seg.unread + seg.held, stopPending := false }
      buffer := []
      ending := some (endingOf c seg status)
      deferred := false }).offer (.channel c)

/-! ## Outcomes at the sender -/

/-- R99, R111: COMMIT at the channel. -/
def State.commitAtSender (s : State) (c : ChannelNo) (seg : Segment) : State :=
  let seg' := { seg with committed := seg.committed + seg.held, held := 0, retry := 0 }
  if seg'.unread = 0 then s.endSegment c seg' .done
  else if seg'.stopPending then s.endSegment c seg' .stopped
  else (s.setChan c { s.chan c with state := .assembling, current := some seg', buffer := [] }).readPoint c

/-- R101, R103, R111: RETRY or ABORTED at the channel. -/
def State.retryAtSender (s : State) (c : ChannelNo) (seg : Segment) : State :=
  let seg' := { seg with retry := seg.retry + 1 }
  if Config.retryLimit ≤ seg'.retry then s.endSegment c seg' .retryExhausted
  else if seg'.stopPending then s.endSegment c seg' .stopped
  else s.setChan c { s.chan c with state := .ready, current := some seg' }

/-- R98: the ON_BUS channel takes its tenure's outcome. A channel that has left ON_BUS takes nothing. -/
def State.channelOutcome (s : State) (c : ChannelNo) (o : TenureOutcome) : State :=
  match (s.chan c).state, (s.chan c).current with
  | .onBus, some seg =>
    match o with
    | .commit => s.commitAtSender c seg
    | .retry => s.retryAtSender c seg
    | .aborted => s.retryAtSender c seg
    | .refuse => s.endSegment c seg .refused
    | .unclaimed => s.endSegment c seg .noReceiver
  | _, _ => s

/-- R106, R111: the ON_BUS channel takes an echo withdrawal. -/
def State.channelWithdrawal (s : State) (c : ChannelNo) : State :=
  match (s.chan c).state, (s.chan c).current with
  | .onBus, some seg =>
    if seg.stopPending then s.endSegment c seg .stopped else s.setChan c { s.chan c with state := .ready }
  | _, _ => s

/-- R95: the turn picker's choice among the channels READY. -/
def State.turnPick (s : State) : Option ChannelNo := (channelsAfter s.lastSent).find? s.isReady

/-! ## Window events -/

/-- R144: an event merges with the pending note. -/
def mergeEvent : Option WindowEvent → WindowEvent → WindowEvent
  | none, e => e
  | some p, .progress => p
  | some (.fault _), .fault b => .fault b
  | some (.fault a), .full => .fault a
  | some (.fault a), .closed => .fault a
  | some .progress, e => e
  | some .full, e => e
  | some .closed, e => e

/-- R144: an event is placed in the window's note. -/
def State.windowEvent (s : State) (w : WindowNo) (e : WindowEvent) : State :=
  s.setWin w { s.win w with note := some (mergeEvent (s.win w).note e) }

/-- A frame of the window is in the landing queue. -/
def State.hasQueued (s : State) (w : WindowNo) : Bool := s.landing.queue.any fun f => f.window == w

/-- R145: the drain test. A frame whose write is in flight stands at the head of the queue, so a window with no queued
frame has no write in flight. -/
def State.drainTest (s : State) (w : WindowNo) : State :=
  if (s.win w).state = .closing ∧ s.hasQueued w = false then
    (s.setWin w { s.win w with state := .closed }).windowEvent w .closed
  else s

/-- R143: whether the completion of the write of `f`, now out of the queue, makes a PROGRESS event. -/
def State.makesProgress (s : State) (f : QueuedFrame) : Bool :=
  match (s.win f.window).notify with
  | .none => false
  | .eachTenure => !(s.landing.queue.any fun g => g.tenure == f.tenure)
  | .segmentEnd => f.last

/-- R143: whether the window, its V just advanced, becomes FULL. -/
def Window.becomesFull (x : Window) : Bool :=
  (x.kind == .once) && (x.state == .opened) && (x.visible.toNat == x.size)

/-- R143: the note test, PROGRESS first and FULL after it. -/
def State.noteTest (s : State) (f : QueuedFrame) : State :=
  let s1 := if s.makesProgress f then s.windowEvent f.window .progress else s
  if (s1.win f.window).becomesFull then
    (s1.setWin f.window { s1.win f.window with state := .full }).windowEvent f.window .full
  else s1

/-! ## The landing writer -/

/-- A window of a STREAM kind. -/
def Window.isStream (x : Window) : Bool := !(x.kind == .table)

/-- Figure 8-2: the bytes of a RING frame that fit before the end of the region, if the frame is split there. -/
def splitAt (x : Window) (f : QueuedFrame) : Option Nat :=
  if x.kind = .ring ∧ x.size < f.ringPos + f.payload.length then some (x.size - f.ringPos) else none

/-- Figure 8-2: the first part of a frame's write. -/
def firstPart (x : Window) (f : QueuedFrame) : WriteRequest :=
  { addr := x.base.toNat + (if x.kind = .ring then f.ringPos else f.target.toNat)
    bytes :=
      match splitAt x f with
      | some n => f.payload.take n
      | none => f.payload }

/-- Figure 8-2: the second part of a split frame's write, from the base on. -/
def secondPart (x : Window) (f : QueuedFrame) : WriteRequest :=
  { addr := x.base.toNat
    bytes :=
      match splitAt x f with
      | some n => f.payload.drop n
      | none => [] }

/-- R140: an idle writer takes a released frame at the head in progress and requests its first part. -/
def State.writerAct (s : State) : State :=
  match s.landing.writer, s.landing.queue with
  | .idle, f :: _ =>
    if f.released then
      (s.setLanding { s.landing with writer := .first }).setPort
        (s.port.requestWrite (firstPart (s.win f.window) f))
    else s
  | _, _ => s

/-! ## Outcomes at the receiver -/

/-- R118, R119: the ring position moved back by a number of bytes, modulo the size. -/
def ringBack (p size back : Nat) : Nat := (p + size - back % size) % size

/-- R138: what a COMMIT does to the tenure's window, `n` frames being released. -/
def Window.commitFrames (x : Window) (n : Nat) (sender : StationId) : Window :=
  { x with
    commitMark := if x.isStream then x.accepted else x.commitMark
    committedFrames := min Config.frameCountLimit (x.committedFrames + n)
    lastSender := if n = 0 then x.lastSender else some sender }

/-- R139: what any other outcome does to the tenure's window: A goes back to C, and the ring position with it (R119). -/
def Window.setBack (x : Window) : Window :=
  if x.isStream then
    { x with
      accepted := x.commitMark
      ringPos :=
        if x.kind = .ring then ringBack x.ringPos x.size (x.accepted - x.commitMark).toNat else x.ringPos }
  else x

/-- R138: COMMIT at the landing unit. -/
def State.landingCommit (s : State) : State :=
  let n := (s.landing.queue.filter fun f => !f.released).length
  let released := s.landing.queue.map fun f => { f with released := true }
  let s1 :=
    match s.landing.vote with
    | some v => s.setWin v.window ((s.win v.window).commitFrames n v.sender)
    | none => s
  (s1.setLanding { s1.landing with queue := released, vote := none }).writerAct

/-- R139: any other outcome at the landing unit, with the drain test of R145 for the tenure's window. -/
def State.landingDrop (s : State) : State :=
  let kept := s.landing.queue.filter fun f => f.released
  match s.landing.vote with
  | some v =>
    let s1 := s.setWin v.window (s.win v.window).setBack
    let s2 := s1.setLanding { s1.landing with queue := kept, vote := none }
    (s2.drainTest v.window).offer (.window v.window)
  | none => s.setQueue kept

/-- R138, R139: the landing unit takes a tenure's outcome. -/
def State.landingOutcome (s : State) : TenureOutcome → State
  | .commit => s.landingCommit
  | .retry => s.landingDrop
  | .refuse => s.landingDrop
  | .unclaimed => s.landingDrop
  | .aborted => s.landingDrop

/-! ## Rotation and the tenure counter -/

/-- Figure 2-2: the place in the list of the entry to move. -/
def rotationIndex (list : List Entry) (h : HeaderView) (rank : Option Nat) : Option Nat :=
  let atRank := rank.filter fun r => decide (r < list.length)
  match h with
  | .good hd =>
    match list.findIdx? fun e => e.id == hd.sender with
    | some i => some i
    | none => atRank
  | .awaited => atRank
  | .unreadable => atRank

/-- R30: the entry at place `i` is moved to the bottom, its ID and miss count kept. -/
def moveToBottom (list : List Entry) (i : Nat) : List Entry :=
  match list[i]? with
  | some e => list.eraseIdx i ++ [e]
  | none => list

/-- R29, R32: the list after a tenure end. -/
def rotated (mode : BusMode) (list : List Entry) (h : HeaderView) (rank : Option Nat) : List Entry :=
  match mode with
  | .fixed => list
  | .rotate =>
    match rotationIndex list h rank with
    | some i => moveToBottom list i
    | none => list

/-- R29 to R32: the order list unit takes a tenure end. -/
def State.rotate (s : State) : State :=
  s.setOrder { s.order with list := rotated s.membership.mode s.order.list s.bus.header s.contestRank }

/-- R39: the tenure counter advances by one and stays at its limit. -/
def State.countTenure (s : State) : State :=
  s.setMembership
    { s.membership with tenureCounter := min Config.tenureCounterLimit (s.membership.tenureCounter + 1) }

/-! ## The tenure end -/

/-- R20: the bus controller leaves TENURE and clears the tenure's records; the contest rank is kept. -/
def BusController.endTenure (b : BusController) : BusController :=
  { b with phase := .silent, header := .awaited, destination := false, framesReceived := 0, frameFailures := 0,
           echoFailed := false, verdict := .closed, drive := .nothing }

/-- R20: the channel of this station's own tenure, if it has not already taken ABORTED or withdrawn, takes the
outcome. -/
def State.senderOutcome (s : State) (o : TenureOutcome) : State :=
  match s.bus.drive with
  | .tenure c => s.channelOutcome c o
  | .nothing | .claim _ | .census _ _ => s

/-- A station that drives its own tenure and is a destination of it: its channel and its landing unit both act on the
outcome, and the spec gives no order between them (R20, R154, R161). -/
def State.selfAddressed (s : State) : Bool :=
  (match s.bus.drive with
    | .tenure _ => true
    | .nothing | .claim _ | .census _ _ => false) && s.landing.vote.isSome

/-- R20, Figure 1-7: channel and landing unit take the outcome, in an order drawn where both act (log 16). -/
def State.takeOutcome (s : State) (o : TenureOutcome) : State :=
  if s.selfAddressed then
    let (channelFirst, s1) := s.draw
    if channelFirst then (s1.senderOutcome o).landingOutcome o else (s1.landingOutcome o).senderOutcome o
  else (s.senderOutcome o).landingOutcome o

/-- R20: the tenure end. -/
def State.tenureEnd (s : State) (o : TenureOutcome) : State :=
  let s1 := (s.rotate.countTenure).takeOutcome o
  s1.setBus s1.bus.endTenure

/-! ## The membership unit -/

/-- R36, R40 to R43: a change of link state: the reason is recorded where one is given, the timer of the new state
starts (the idle timer keeps running from MEMBER to LEAVING), and wants that the new state does not hold are cleared. -/
def Membership.enter (m : Membership) (l : LinkState) (r : Option Reason) : Membership :=
  { m with
    link := l
    lastReason := r.getD m.lastReason
    idleTimer :=
      match l with
      | .member => .running
      | .leaving => m.idleTimer
      | .down | .listening | .joining | .out => .stopped
    formationTimer :=
      match l with
      | .listening => .running
      | .down | .joining | .member | .leaving | .out => .stopped
    idleWant :=
      match l with
      | .member | .leaving => m.idleWant
      | .down | .listening | .joining | .out => false
    formationWant := false }

/-- The membership unit's change of link state. -/
def State.enter (s : State) (l : LinkState) (r : Option Reason) : State := s.setMembership (s.membership.enter l r)

/-- R60: a cause makes the membership note pending or merges into it, and R160 grants it where the log has room. -/
def State.note (s : State) (n : NoteReason) : State :=
  (s.setMembership { s.membership with note := some n }).offer .membership

/-- A change of link state with its reason and its note. -/
def State.enterWithNote (s : State) (l : LinkState) (r : Reason) : State := (s.enter l (some r)).note (.change r)

/-- R23, R40, R41: an activity report restarts the running timer of the link state. -/
def Membership.activity (m : Membership) : Membership :=
  match m.link with
  | .member | .leaving => { m with idleTimer := .running }
  | .listening => { m with formationTimer := .running }
  | .down | .joining | .out => m

/-- R23: the bus controller reports activity. -/
def State.activity (s : State) : State := s.setMembership s.membership.activity

/-- R55: the membership unit at a census abandonment. -/
def State.censusAbandoned (s : State) : State :=
  let s1 := s.setMembership { s.membership with census := none }
  if s1.membership.link = .joining then s1.enter .listening none else s1

/-- R56: the membership unit at a census collision. The record is marked closed; what it holds is kept for the census
end (log 19). -/
def State.censusCollision (s : State) : State :=
  let s1 := s.setMembership { s.membership with census := s.membership.census.map fun r => { r with collided := true } }
  match s1.membership.link with
  | .leaving => s1.enterWithNote .out .collided
  | .member | .listening | .joining => s1.enterWithNote .listening .collided
  | .down | .out => s1

/-- R57: the membership unit at an echo withdrawal. -/
def State.tenureCollision (s : State) : State :=
  match s.membership.link with
  | .leaving => s.enterWithNote .out .collided
  | .member => s.enterWithNote .listening .collided
  | .down | .listening | .joining | .out => s

/-! ## The census on the bus -/

/-- R21: the bus controller leaves CENSUS. -/
def BusController.endCensus (b : BusController) : BusController :=
  { b with phase := .silent, drive := .nothing, answer := none, censusHeader := .awaited, slotMarks := 0,
           slotAnswered := false }

/-- R22: the census in progress is abandoned. -/
def State.abandonCensus (s : State) : State :=
  let s1 := s.censusAbandoned
  s1.setBus s1.bus.endCensus

/-- R44: the header of a census this station claims: a formation census carries N = 0 and the strapped parameters, any
other its member count and the adopted parameters. -/
def State.ownCensusHeader (s : State) (formation : Bool) : CensusHeader :=
  if formation then { claimant := s.straps.id, slots := 0, mode := s.straps.mode, interval := s.straps.interval }
  else
    { claimant := s.straps.id, slots := s.memberCount, mode := s.membership.mode, interval := s.membership.interval }

/-! ## The local command port -/

/-- A command's result: its code and the result words. -/
structure Reply where
  code : ResultCode
  words : Vector Word 4

/-- R165: a result with result words 0. -/
def reply (code : ResultCode) : Reply := { code := code, words := Vector.replicate 4 0 }

/-- R165: the port sets the result code and the result words. -/
def State.setReply (s : State) (r : Reply) : State :=
  s.setCmd { s.cmd with result := r.code, results := r.words }

/-- R165, R170: a write of a command's code: the code is stored and the command is taken by its owner at once; while
RESET is asserted the write is ignored. -/
def State.takeCommand (s : State) (code : BitVec 8) (act : State → State × Reply) : Answered :=
  if s.membership.link = .down then .next s
  else
    let (t, r) := act (s.setCmd { s.cmd with code := code })
    .next (t.setReply r)

/-- R166: a command that names a channel; a number out of range gives BAD_FIELD. -/
def State.onChannel (s : State) (act : ChannelNo → State × Reply) : State × Reply :=
  match channelField s.cmd.words[0] with
  | none => (s, reply .badField)
  | some c => act c

/-- R126: a command that names a window; a number out of range gives BAD_FIELD. -/
def State.onWindow (s : State) (act : WindowNo → State × Reply) : State × Reply :=
  match windowField s.cmd.words[0] with
  | none => (s, reply .badField)
  | some w => act w

/-! ## Resets -/

/-- R2, R34, R37, R82, R96, R97, R115, R134, R148, R164, R171: what a pin reset and STATION_RESET clear alike: the bus
controller, the order list, census record, wants, timers, counter and note of the membership unit, the channels, the turn
picker, the landing unit, the log and the command port. -/
def State.clearBlocks (s : State) : State :=
  { s with
    bus := BusController.reset
    order := OrderUnit.reset
    membership :=
      { s.membership with tenureCounter := 0, idleTimer := .stopped, formationTimer := .stopped, idleWant := false,
                          formationWant := false, census := none, note := none }
    channels := Vector.replicate 4 Channel.reset
    lastSent := 3
    landing := Landing.reset
    log := CompletionLog.reset
    cmd := CommandPort.reset }

/-- R37, R62: the straps are sampled, the adopted parameters take the strapped values, and the link state becomes
LISTENING or OUT with the reason RESET. -/
def State.comeUp (s : State) (pins : StrapPins) : State :=
  let st := sampleStraps pins
  let s1 := s.setStraps st
  let s2 := s1.setMembership { s1.membership with mode := st.mode, interval := st.interval }
  s2.enter (if st.autoJoin then .listening else .out) (some .reset)

end Sys2Proof.Machine
end

