-- ==== Sys2Proof/Machine/Census.lean ====
section
/-! DEFINITION. Censuses and the membership timers (chapter 1, section 1.10; chapter 3): ECHO_MISMATCH_CENSUS,
CENSUS_HEADER, CENSUS_SLOT_TIME, SLOT_MARK, LIST_SLOT_ANSWER, JOIN_SLOT_ANSWER, END_MARK, CENSUS_ABANDON_SILENCE,
IDLE_TIMER_EXPIRY, FORMATION_TIMER_EXPIRY. -/

namespace Sys2Proof.Machine

/-! ## The echo rule in a census -/

/-- The claimant is driving a part of its census (not waiting out a slot). -/
def drivesCensusPart : CensusPart → Bool
  | .header => true
  | .slotMark _ => true
  | .slotTime _ => false
  | .endMark => true

/-- ECHO_MISMATCH_CENSUS (R16): in an answer, the answer is not sent; in the header or a mark of its own census, a census
collision (R56). -/
def execEchoMismatchCensus (s : State) : Answered :=
  match s.bus.phase, s.bus.answer, s.bus.drive with
  | .census, some _, _ => .next (s.setBus { s.bus with answer := none })
  | .census, none, .census _ part =>
    if drivesCensusPart part then .next (s.setBus { s.bus with drive := .nothing }).censusCollision
    else .fault .notDriving
  | _, _, _ => .fault .notDriving

/-! ## The header -/

/-- R45: the census record a good header opens. -/
def recordOf (h : CensusHeader) : CensusRecord :=
  { header := h, reference := none, answers := List.replicate h.slots none, joiners := [], diverged := false,
    collided := false }

/-- R45: a good census header at the membership unit. -/
def State.openCensus (s : State) (h : CensusHeader) : State :=
  let s1 := s.setMembership { s.membership with census := some (recordOf h) }
  if s1.membership.link = .listening then s1.enter .joining none else s1

/-- R21: a claimant whose header has gone out sends its first slot mark. -/
def afterHeader : Drive → Drive
  | .census h .header => .census h (.slotMark 0)
  | d => d

/-- CENSUS_HEADER (R21, R23, R45). -/
def execCensusHeader (w : WireCensusHeader) (s : State) : Answered :=
  if s.follows then
    if s.bus.phase = .census ∧ s.bus.censusHeader = .awaited ∧ s.bus.slotMarks = 0 then
      match goodCensusHeader w with
      | some h =>
        .next ((s.activity.setBus { s.bus with censusHeader := .good, drive := afterHeader s.bus.drive }).openCensus h)
      | none => .next (s.activity.setBus { s.bus with censusHeader := .bad, drive := afterHeader s.bus.drive })
    else .fault .notAtThisPoint
  else .next s

/-! ## Slots -/

/-- R21: the part after the slot time of slot mark `k`: the next slot mark, or after the last join slot the end mark. -/
def nextPart (slots k : Nat) : CensusPart :=
  if k + 1 < slots + Config.joinSlots then .slotMark (k + 1) else .endMark

/-- CENSUS_SLOT_TIME (R21): the claimant goes on to its next mark; at a listener the slot time does nothing. -/
def execCensusSlotTime (s : State) : Answered :=
  if s.follows then
    if s.bus.phase = .census then
      match s.bus.drive with
      | .census h (.slotTime k) => .next (s.setBus { s.bus with drive := .census h (nextPart h.slots k), answer := none })
      | .census _ .header => .fault .notAtThisPoint
      | .census _ (.slotMark _) => .fault .notAtThisPoint
      | .census _ .endMark => .fault .notAtThisPoint
      | .nothing => .next s
      | .claim _ => .next s
      | .tenure _ => .next s
    else .fault .notAtThisPoint
  else .next s

/-- R46: the station's answer in list slot `i`, if it is the answerer. -/
def State.listAnswer (s : State) (i : Nat) : Option Answer :=
  if (s.membership.link = .member ∨ s.membership.link = .leaving) ∧ s.ownRank = some i then
    some (.list s.straps.id (s.membership.link == .leaving) s.order.list)
  else none

/-- R49: the station's answer in join slot `j`, if it is the answerer. -/
def State.joinAnswer (s : State) (j : Nat) : Option Answer :=
  if s.membership.link = .joining ∧ s.straps.id.val = j then some (.join s.straps.id) else none

/-- R48: a MEMBER or LEAVING station compares its list with the reference. -/
def State.compareWithReference (s : State) (r : CensusRecord) (reference : List Entry) : State :=
  if s.order.list = reference then s
  else
    match s.membership.link with
    | .member =>
      (s.setMembership { s.membership with census := some { r with diverged := true } }).enterWithNote .joining .diverged
    | .leaving => s.enterWithNote .out .left
    | .down | .listening | .joining | .out => s

/-- R47, R48: the end of the list slots. An absent reference is the empty list; after the comparison every JOINING
station takes the reference as its own list. -/
def State.endListSlots (s : State) (r : CensusRecord) : State :=
  let reference := r.reference.getD []
  let r' := { r with reference := some reference }
  let s1 := (s.setMembership { s.membership with census := some r' }).compareWithReference r' reference
  if s1.membership.link = .joining then s1.setOrder { s1.order with list := reference } else s1

/-- R21: a claimant's slot mark has gone out and its slot time runs. -/
def afterSlotMark : Drive → Drive
  | .census h (.slotMark k) => .census h (.slotTime k)
  | d => d

/-- R46, R48, R49: the membership unit at the mark of slot `k`, counted over list and join slots together. -/
def State.followSlot (s : State) (k : Nat) : State :=
  match s.membership.census with
  | none => s
  | some r =>
    if k < r.header.slots then s.setBus { s.bus with answer := s.listAnswer k }
    else
      let s1 := if k = r.header.slots then s.endListSlots r else s
      s1.setBus { s1.bus with answer := s1.joinAnswer (k - r.header.slots) }

/-- SLOT_MARK (R1, R21, R23). A slot mark outside CENSUS is ignored. -/
def execSlotMark (s : State) : Answered :=
  if s.follows && (s.bus.phase == .census) then
    .next
      ((s.activity.setBus
        { s.bus with slotMarks := s.bus.slotMarks + 1, slotAnswered := false, answer := none,
                     drive := afterSlotMark s.bus.drive }).followSlot s.bus.slotMarks)
  else .next s

/-- R47: a heard list slot answer is recorded in its slot, and its list is the reference if none was heard before. -/
def CensusRecord.hearList (r : CensusRecord) (i : Nat) (a : HeardAnswer) (list : List Entry) : CensusRecord :=
  { r with answers := r.answers.set i (some a)
           reference := match r.reference with
             | some ref => some ref
             | none => some list }

/-- R49: a heard join answerer. -/
def CensusRecord.hearJoin (r : CensusRecord) (j : StationId) : CensusRecord :=
  { r with joiners := if r.joiners.contains j then r.joiners else r.joiners ++ [j] }

/-- The bus controller's record that the present slot has been answered. -/
def State.markAnswered (s : State) : State := s.setBus { s.bus with slotAnswered := true, answer := none }

/-- A slot is open and unanswered (R21: one answer, directly after its slot mark). -/
def State.slotOpen (s : State) : Bool :=
  (s.bus.phase == .census) && decide (0 < s.bus.slotMarks) && !s.bus.slotAnswered

/-- R47: the membership unit takes a list slot answer. -/
def State.takeListAnswer (s : State) (r : CensusRecord) (a : WireListAnswer) : State :=
  match heardList a with
  | some list =>
    s.setMembership
      { s.membership with
        census := some (r.hearList (s.bus.slotMarks - 1) { id := a.id, leave := a.leave } list) }
  | none => s

/-- LIST_SLOT_ANSWER (R21, R23, R47). A station without a census record hands no slot to the membership unit. -/
def execListSlotAnswer (a : WireListAnswer) (s : State) : Answered :=
  if a.wellFormed then
    if s.follows then
      if s.slotOpen then
        match s.membership.census with
        | none => .next s.activity.markAnswered
        | some r =>
          if s.bus.slotMarks ≤ r.header.slots then .next (s.activity.markAnswered.takeListAnswer r a)
          else .fault .notAtThisPoint
      else .fault .notAtThisPoint
    else .next s
  else .fault .illFormedOperand

/-- R49: the membership unit takes the answer of join slot `j`: heard when its check is good and it carries the slot's own
ID. -/
def State.takeJoinAnswer (s : State) (r : CensusRecord) (j : Nat) (a : WireJoinAnswer) : State :=
  if joinCheck a.id = a.check ∧ a.id.val = j then
    s.setMembership { s.membership with census := some (r.hearJoin a.id) }
  else s

/-- JOIN_SLOT_ANSWER (R21, R23, R49). -/
def execJoinSlotAnswer (a : WireJoinAnswer) (s : State) : Answered :=
  if s.follows then
    if s.slotOpen then
      match s.membership.census with
      | none => .next s.activity.markAnswered
      | some r =>
        if r.header.slots < s.bus.slotMarks then
          .next (s.activity.markAnswered.takeJoinAnswer r (s.bus.slotMarks - 1 - r.header.slots) a)
        else .fault .notAtThisPoint
    else .fault .notAtThisPoint
  else .next s

/-! ## Census end -/

/-- R50, step 3: one more miss; none where the miss count reaches 3. -/
def missOnce (e : Entry) : Option Entry :=
  if h : e.miss.val + 1 < Config.missLimit then some { e with miss := ⟨e.miss.val + 1, h⟩ } else none

/-- R50, steps 2 to 4, for the entry at position `i`: the answer of list slot `i` counts where it carries the entry's own
ID. Answered: miss count 0, and removed where the leave flag was set. Not answered: one miss more, and removed at 3. -/
def survives (answers : List (Option HeardAnswer)) (i : Nat) (e : Entry) : Option Entry :=
  match answers[i]? with
  | some (some a) =>
    if a.id = e.id then (if a.leave then none else some { e with miss := 0 }) else missOnce e
  | some none => missOnce e
  | none => missOnce e

/-- R50, steps 2 to 4, along the reference list from position `i`. -/
def survivors (answers : List (Option HeardAnswer)) (i : Nat) : List Entry → List Entry
  | [] => []
  | e :: rest =>
    match survives answers i e with
    | some e' => e' :: survivors answers (i + 1) rest
    | none => survivors answers (i + 1) rest

/-- The join answerers in ascending station ID order, each with miss count 0 (R50, step 6). -/
def joinerEntries (joiners : List StationId) : List Entry :=
  (allSixteen.filter fun id => joiners.contains id).map fun id => { id := id, miss := 0 }

/-- A list placed in ascending station ID order (R32; R50, step 6); no ID stands twice in it. -/
def ascending (list : List Entry) : List Entry :=
  allSixteen.filterMap fun id => list.find? fun e => e.id == id

/-- R50, steps 1 to 6: the new order list, from the record alone. -/
def newList (r : CensusRecord) : List Entry :=
  let kept := survivors r.answers 0 (r.reference.getD [])
  let step5 := kept.filter fun e => !(r.joiners.contains e.id)
  match r.header.mode with
  | .rotate => step5 ++ joinerEntries r.joiners
  | .fixed => ascending (step5 ++ joinerEntries r.joiners)

/-- R50 steps 7 and 8, R51: the new list is installed, the flag cleared, the parameters adopted, the counter and the idle
want cleared and the record closed. -/
def State.installCensus (s : State) (r : CensusRecord) : State :=
  (s.setOrder { list := newList r, disagree := false }).setMembership
    { s.membership with mode := r.header.mode, interval := r.header.interval, tenureCounter := 0, idleWant := false,
                        census := none }

/-- The list slot of the given rank held a heard answer with the own ID and the leave flag (R52). -/
def leaveHeard (r : CensusRecord) (id : StationId) (rank : Option Nat) : Bool :=
  match rank with
  | none => false
  | some i => r.answers[i]? == some (some { id := id, leave := true })

/-- R52, R53, Figure 3-9: the link state at census end; `before` is the station with its list just before it. -/
def State.linkAtCensusEnd (s before : State) (r : CensusRecord) : State :=
  match s.membership.link with
  | .joining =>
    if s.ownRank.isSome then s.enterWithNote .member (if r.header.slots = 0 then .formed else .joined)
    else s.enter .listening none
  | .member =>
    if s.ownRank.isSome then
      if s.memberCount = before.memberCount then s else s.note .listChanged
    else s.enterWithNote .listening .struck
  | .leaving =>
    if leaveHeard r s.straps.id before.ownRank || s.ownRank.isNone then s.enterWithNote .out .left else s
  | .down | .listening | .out => s

/-- R50 to R53: census end at the membership unit. A station that opened no record has lost the census and changes
nothing (R54). -/
def State.censusEnd (s : State) : State :=
  match s.membership.census with
  | some r => (s.installCensus r).linkAtCensusEnd s r
  | none => s

/-- END_MARK (R1, R21, R23, R50 to R54). An end mark outside CENSUS is ignored. -/
def execEndMark (s : State) : Answered :=
  if s.follows && (s.bus.phase == .census) then .next (s.activity.censusEnd.setBus s.bus.endCensus) else .next s

/-- CENSUS_ABANDON_SILENCE (R22, R55). -/
def execCensusAbandonSilence (s : State) : Answered :=
  if s.follows then
    if s.bus.phase = .census then .next s.abandonCensus else .fault .notAtThisPoint
  else .next s

/-! ## The membership timers -/

/-- IDLE_TIMER_EXPIRY (R40): the idle census want is latched and the timer stays stopped. -/
def execIdleTimerExpiry (s : State) : Answered :=
  if s.membership.idleTimer = .running then
    .next (s.setMembership { s.membership with idleTimer := .stopped, idleWant := true })
  else .fault .timerNotRunning

/-- FORMATION_TIMER_EXPIRY (R41, R43): the formation census want is latched. -/
def execFormationTimerExpiry (s : State) : Answered :=
  if s.membership.formationTimer = .running then
    .next (s.setMembership { s.membership with formationTimer := .stopped, formationWant := true })
  else .fault .timerNotRunning

end Sys2Proof.Machine
end

