-- ==== Sys2Proof/Machine/ChannelCommands.lean ====
section
/-! DEFINITION. The channel commands (chapters 4 and 6): PUSH, STOP, RESUME, FLUSH, QUERY_CHANNEL. -/

namespace Sys2Proof.Machine

/-- R63, R65: PUSH at its channel. -/
def State.push (s : State) : State × Reply :=
  match pushFields s.cmd.words with
  | none => (s, reply .badField)
  | some (c, r) =>
    let ch := s.chan c
    if ch.state = .idle then (s.startSegment c r ch.staged, reply .ok)
    else if ch.staged.length < Config.stagedCapacity then
      (s.setChan c { ch with staged := ch.staged ++ [r] }, reply .ok)
    else (s, reply .queueFull)

/-- PUSH (R63, R65, R66). -/
def execPush (s : State) : Answered := s.takeCommand 0x01 State.push

/-- R108 to R110: STOP at its channel. -/
def State.stopChannel (s : State) (c : ChannelNo) : State × Reply :=
  match (s.chan c).state, (s.chan c).current with
  | .assembling, some seg => (s.endSegment c seg .stopped, reply .ok)
  | .ready, some seg => (s.endSegment c seg .stopped, reply .ok)
  | .onBus, some seg => (s.setChan c { s.chan c with current := some { seg with stopPending := true } }, reply .ok)
  | _, _ => (s, reply .wrongState)

/-- STOP (R108). -/
def execStop (s : State) : Answered := s.takeCommand 0x02 fun s => s.onChannel s.stopChannel

/-- R78: RESUME at its channel. -/
def State.resumeChannel (s : State) (c : ChannelNo) : State × Reply :=
  if (s.chan c).state = .halted then
    match (s.chan c).staged with
    | r :: rest => (s.startSegment c r rest, reply .ok)
    | [] => (s.setChan c { s.chan c with state := .idle }, reply .ok)
  else (s, reply .wrongState)

/-- RESUME (R78). -/
def execResume (s : State) : Answered := s.takeCommand 0x03 fun s => s.onChannel s.resumeChannel

/-- R79, R80: FLUSH at its channel. -/
def State.flushChannel (s : State) (c : ChannelNo) : State × Reply :=
  let ch := s.chan c
  if ch.staged.isEmpty then (s, reply .ok)
  else
    ((s.setChan c
      { ch with staged := [], flushCount := min Config.flushCountLimit (ch.flushCount + ch.staged.length) }).offer
        (.channel c), reply .ok)

/-- FLUSH (R79). -/
def execFlush (s : State) : Answered := s.takeCommand 0x04 fun s => s.onChannel s.flushChannel

/-- Figure 10-12: the ending status shown: the ending record's in ENDING, no status elsewhere. -/
def endingStatusCode (ch : Channel) : Nat :=
  match ch.state, ch.ending with
  | .ending, some e => statusCode e.report.status
  | _, _ => 7

/-- R81, Figures 4-7 and 10-12: the result words of QUERY_CHANNEL. -/
def channelWords (ch : Channel) : Vector Word 4 :=
  let common := putField 0 (channelStateCode ch.state) ||| putField 3 ch.staged.length ||| putField 7 ch.flushCount
  match ch.current with
  | none => #v[common, 0, 0, putField 24 (endingStatusCode ch)]
  | some seg =>
    #v[common ||| putField 15 1 ||| putField 16 seg.record.tag.toNat,
      putField 0 seg.committed ||| putField 24 seg.record.window.val ||| putField 28 (flagCode seg.stopPending) |||
        putField 29 (flagCode seg.record.repeats) ||| putField 30 (flagCode seg.record.notify),
      putField 0 seg.unread ||| putField 24 (destCode seg.record.dest),
      putField 0 seg.held ||| putField 16 seg.retry ||| putField 24 (endingStatusCode ch)]

/-- QUERY_CHANNEL (R81). -/
def execQueryChannel (s : State) : Answered :=
  s.takeCommand 0x05 fun s => s.onChannel fun c => (s, { code := .ok, words := channelWords (s.chan c) })

end Sys2Proof.Machine
end

