-- ==== Sys2Proof/Machine/Contest.lean ====
section
/-! DEFINITION. Contests and stepping in (chapter 1, sections 1.1 and 1.2): START_MARK, CONTEST_LOSS, CLAIM_CODE_END,
CONTEST_SILENCE, STEP_IN_SILENCE. -/

namespace Sys2Proof.Machine

/-- R1: what the beginning of a start mark ends: a tenure as ABORTED, a census as abandoned; a contest ends without a
winner and without effect (R5). -/
def State.endedByStartMark (s : State) : State :=
  match s.bus.phase with
  | .tenure => s.tenureEnd .aborted
  | .census => s.abandonCensus
  | .silent => s
  | .contest => s

/-- R3, R4, R26: a contest opens; the station contends if it wants the bus at this moment. -/
def State.openContest (s : State) : State :=
  s.setBus
    { s.bus with phase := .contest, winningCode := none,
                 drive := match s.claim with
                   | some c => .claim c
                   | none => .nothing }

/-- R2: an out-of-step bus controller comes into step at the beginning of a start mark, as a listener. -/
def State.stepInAtContest (s : State) : State :=
  s.setBus { s.bus with inStep := true, phase := .contest, winningCode := none, drive := .nothing }

/-- START_MARK (R1, R2, R3, R23). -/
def execStartMark (s : State) : Answered :=
  if s.membership.link = .down then .next s
  else if s.bus.inStep then .next s.endedByStartMark.activity.openContest
  else .next s.stepInAtContest.activity

/-- CONTEST_LOSS (R5): the contender stops driving and follows as a listener. -/
def execContestLoss (s : State) : Answered :=
  match s.bus.phase, s.bus.drive with
  | .contest, .claim _ => .next (s.setBus { s.bus with drive := .nothing })
  | _, _ => .fault .notDriving

/-- R5: the claim this station has won with: it reached the end of the claim code driving the code that was read. -/
def State.wonClaim (s : State) (code : BitVec 5) : Option Claim :=
  match s.bus.drive with
  | .claim c => if claimCode s.straps.id c = code then some c else none
  | .nothing | .tenure _ | .census _ _ => none

/-- R6, R95: the turn picker chooses a READY channel, which goes ON_BUS; with none READY nothing is sent. -/
def State.sendTenure (s : State) : State :=
  match s.turnPick with
  | some c =>
    ((s.setChan c { s.chan c with state := .onBus }).setLastSent c).setBus { s.bus with drive := .tenure c }
  | none => s.setBus { s.bus with drive := .nothing }

/-- R6: what the winner does, by the kind of the code; any other station drives nothing. -/
def State.takeWin (s : State) (tenureWon : Bool) (won : Option Claim) : State :=
  match tenureWon, won with
  | true, some (.tenure _) => s.sendTenure
  | false, some (.census formation) =>
    s.setBus { s.bus with drive := .census (s.ownCensusHeader formation) .header }
  | _, _ => s.setBus { s.bus with drive := .nothing }

/-- CLAIM_CODE_END (R1, R5, R6): the winning code is recorded and its kind bit gives the phase. -/
def execClaimCodeEnd (code : BitVec 5) (s : State) : Answered :=
  if s.follows then
    if s.bus.phase = .contest then
      .next
        ((s.setBus
          { s.bus with phase := if tenureKind code then .tenure else .census, winningCode := some code }).takeWin
            (tenureKind code) (s.wonClaim code))
    else .fault .notAtThisPoint
  else .next s

/-- CONTEST_SILENCE (R1): the contest ends without a winner. -/
def execContestSilence (s : State) : Answered :=
  if s.follows then
    if s.bus.phase = .contest then .next (s.setBus { s.bus with phase := .silent, drive := .nothing })
    else .fault .notAtThisPoint
  else .next s

/-- STEP_IN_SILENCE (R2): an out-of-step bus controller comes into step with the phase SILENT. -/
def execStepInSilence (s : State) : Answered :=
  if s.membership.link = .down then .next s
  else if s.bus.inStep then .fault .notAtThisPoint
  else .next (s.setBus { s.bus with inStep := true, phase := .silent })

end Sys2Proof.Machine
end

