-- ==== Sys2Proof/Machine/MembershipCommands.lean ====
section
/-! DEFINITION. The membership commands (chapter 3, section 3.10): LEAVE and JOIN. -/

namespace Sys2Proof.Machine

/-- R58, Figure 3-10: LEAVE by link state. A join answer that a JOINING station is sending when it takes LEAVE goes on to
its end: `bus.answer` is kept. That is the model's choice (log 27), since R49 decides at the slot mark while Figure 3-1 has
an OUT station drive nothing. -/
def State.leaveCommand (s : State) : State × Reply :=
  match s.membership.link with
  | .member => (s.enter .leaving none, reply .ok)
  | .listening => (s.enterWithNote .out .left, reply .ok)
  | .joining => (s.enterWithNote .out .left, reply .ok)
  | .leaving | .out | .down => (s, reply .wrongState)

/-- LEAVE (R58). -/
def execLeave (s : State) : Answered := s.takeCommand 0x10 State.leaveCommand

/-- R59: JOIN by link state. -/
def State.joinCommand (s : State) : State × Reply :=
  match s.membership.link with
  | .out => (s.enter .listening none, reply .ok)
  | .down | .listening | .joining | .member | .leaving => (s, reply .wrongState)

/-- JOIN (R59). -/
def execJoin (s : State) : Answered := s.takeCommand 0x11 State.joinCommand

end Sys2Proof.Machine
end

