-- ==== Sys2Proof/Machine/MemoryPort.lean ====
section
/-! DEFINITION. PACE and the completions of the local memory port (chapters 5, 8 and 9): PACE_ACTIVE,
FRAME_READ_COMPLETION, READ_FAULT, STALE_READ_COMPLETION, LANDING_WRITE_COMPLETION, SPLIT_FIRST_PART_COMPLETION,
WRITE_FAULT, ORPHAN_COMPLETION. -/

namespace Sys2Proof.Machine

/-- PACE_ACTIVE (R88, R89, R90): the input stands at the level given; a channel waiting for PACE makes its read request
when its input becomes active. -/
def execPaceActive (c : ChannelNo) (level : Bool) (s : State) : Answered :=
  let s1 := s.setPace (s.pace.set c level)
  if level && (s1.chan c).waitsForPace then .next (s1.requestRead c) else .next s1

/-! ## Channel reads -/

/-- The read in flight that a channel waits for, with the segment it belongs to, if it is neither an orphan nor stale. -/
def State.currentRead (s : State) : Option (ChannelNo × ReadRequest × Segment) :=
  match s.port.inFlight, s.port.orphan with
  | some (.read c r), false =>
    if (s.chan c).readIsStale then none else (s.chan c).current.map fun seg => (c, r, seg)
  | _, _ => none

/-- R85: the frame formed from the bytes of a read. -/
def frameOf (seg : Segment) (r : ReadRequest) (bytes : List Byte) : HeldFrame :=
  { offset := seg.record.offset.map fun o => o + (r.addr - seg.record.source.toNat)
    last := decide (seg.unread - bytes.length = 0)
    payload := bytes }

/-- R86: the segment after a frame of `n` bytes has been read. -/
def Segment.readBytes (seg : Segment) (n : Nat) : Segment :=
  { seg with pointer := seg.pointer + n, unread := seg.unread - n, held := seg.held + n }

/-- R85 to R87: the channel takes a frame: READY when the tenure buffer is complete, and otherwise at a read point. -/
def State.takeFrame (s : State) (c : ChannelNo) (seg : Segment) (f : HeldFrame) : State :=
  let ch := s.chan c
  let buffer := ch.buffer ++ [f]
  let ch' := { ch with current := some (seg.readBytes f.payload.length), buffer := buffer, readOutstanding := false }
  if seg.record.tenureSize ≤ buffer.length ∨ f.last = true then s.setChan c { ch' with state := .ready }
  else (s.setChan c ch').readPoint c

/-- FRAME_READ_COMPLETION (R85, R86, R87, R152). -/
def execFrameReadCompletion (words : List Word) (s : State) : Answered :=
  if wellFormedAnswer words then
    match s.currentRead with
    | some (c, r, seg) =>
      if words.length = accessSpan r.addr r.count then
        .next (s.takeFrame c seg (frameOf seg r (Machine.readBytes r.addr r.count words))).finishAccess
      else .fault .wrongWordCount
    | none => .fault .noSuchCompletion
  else .fault .illFormedOperand

/-- READ_FAULT (R91): the segment ends with SOURCE_FAULT; frames held are discarded. -/
def execReadFault (s : State) : Answered :=
  match s.currentRead with
  | some (c, _, seg) =>
    .next ((s.setChan c { s.chan c with readOutstanding := false }).endSegment c seg .sourceFault).finishAccess
  | none => .fault .noSuchCompletion

/-- R92: the channel takes and drops a stale completion, and takes its deferred read point if it has one. -/
def State.dropStale (s : State) (c : ChannelNo) : State :=
  let s1 := s.setChan c { s.chan c with readOutstanding := false, deferred := false }
  if (s.chan c).deferred then s1.readPoint c else s1

/-- STALE_READ_COMPLETION (R92). -/
def execStaleReadCompletion (s : State) : Answered :=
  match s.port.inFlight, s.port.orphan with
  | some (.read c _), false =>
    if (s.chan c).readIsStale then .next (s.dropStale c).finishAccess else .fault .noSuchCompletion
  | _, _ => .fault .noSuchCompletion

/-! ## Landing writes -/

/-- The landing write in flight and the frame it belongs to, the head of the queue, if it is no orphan. -/
def State.currentWrite (s : State) : Option (WriteRequest × QueuedFrame) :=
  match s.port.inFlight, s.port.orphan, s.landing.queue with
  | some (.write w), false, f :: _ => if s.landing.writer = .idle then none else some (w, f)
  | _, _, _ => none

/-- The part being written is the last part of the frame. -/
def State.lastPart (s : State) (f : QueuedFrame) : Bool :=
  (s.landing.writer == .second) || (splitAt (s.win f.window) f).isNone

/-- R141: the frame leaves the head, the writer becomes idle, and V advances by the frame's byte count. -/
def State.frameWritten (s : State) (f : QueuedFrame) : State :=
  let x := s.win f.window
  let s1 := s.setWin f.window { x with visible := x.visible + BitVec.ofNat 32 f.payload.length }
  s1.setLanding { s1.landing with queue := s1.landing.queue.tail, writer := .idle }

/-- LANDING_WRITE_COMPLETION (R141, R143, R145). -/
def execLandingWriteCompletion (s : State) : Answered :=
  match s.currentWrite with
  | some (_, f) =>
    if s.lastPart f then
      .next
        (((((s.frameWritten f).noteTest f).drainTest f.window).offer (.window f.window)).writerAct).finishAccess
    else .fault .noSuchCompletion
  | none => .fault .noSuchCompletion

/-- SPLIT_FIRST_PART_COMPLETION (R142). -/
def execSplitFirstPartCompletion (s : State) : Answered :=
  match s.currentWrite with
  | some (_, f) =>
    if s.lastPart f then .fault .noSuchCompletion
    else
      .next
        ((s.setLanding { s.landing with writer := .second }).setPort
          (s.port.requestWrite (secondPart (s.win f.window) f))).finishAccess
  | none => .fault .noSuchCompletion

/-- R147: the vote of the open tenure is REFUSE when the fault removes tentative frames of its window. -/
def State.voteAfterFault (s : State) (w : WindowNo) : Option TenureVote :=
  s.landing.vote.map fun v =>
    if v.window = w ∧ (s.landing.queue.any fun f => (f.window == w) && !f.released) = true then
      { v with running := .refuse }
    else v

/-- R146, R147: the window faults at an address. -/
def State.faultWindow (s : State) (w : WindowNo) (address : Word) : State :=
  let s1 := s.setWin w { s.win w with state := .faulted, faultAddr := some address }
  let s2 :=
    s1.setLanding
      { s1.landing with queue := s.landing.queue.filter fun f => !(f.window == w), vote := s.voteAfterFault w,
                        writer := .idle }
  (s2.windowEvent w (.fault address)).offer (.window w)

/-- WRITE_FAULT (R146, R147, R152): the fault address is the first address of the part that failed. -/
def execWriteFault (s : State) : Answered :=
  match s.currentWrite with
  | some (w, f) => .next ((s.faultWindow f.window (BitVec.ofNat 32 w.addr)).writerAct).finishAccess
  | none => .fault .noSuchCompletion

/-- ORPHAN_COMPLETION (R156): the answer goes to no one. -/
def execOrphanCompletion (s : State) : Answered :=
  if s.port.inFlight.isSome && s.port.orphan then .next s.finishAccess else .fault .noSuchCompletion

end Sys2Proof.Machine
end

