-- ==== Sys2Proof/Machine/Registers.lean ====
section
/-! DEFINITION. The other accesses of the register window (chapter 10): UNKNOWN_COMMAND, POP, SET_INTERRUPT_ENABLE,
REGISTER_WRITE. While RESET is asserted every write is ignored (R170). -/

namespace Sys2Proof.Machine

/-- UNKNOWN_COMMAND (R165): the code is stored; result UNKNOWN_COMMAND, result words 0, no other effect. -/
def execUnknownCommand (code : BitVec 8) (s : State) : Answered :=
  if knownCodes.contains code then .fault .illFormedOperand
  else s.takeCommand code fun s => (s, reply .unknownCommand)

/-- R162: the head record is removed, and the freed slot granted where a producer waits (R160). -/
def State.popRecord (s : State) : State :=
  match s.log.records with
  | [] => s
  | _ :: rest => (s.setLog { s.log with records := rest }).grantFreed

/-- R169: the interrupt enable takes the value of the enable bit written. -/
def State.setEnable (s : State) (enable : Bool) : State := s.setCmd { s.cmd with intEnable := enable }

/-- POP (R162, R169): a log control write with the POP bit 1 sets the interrupt enable and pops. -/
def execPop (enable : Bool) (s : State) : Answered :=
  if s.membership.link = .down then .next s else .next (s.setEnable enable).popRecord

/-- SET_INTERRUPT_ENABLE (R169): a log control write with the POP bit 0. -/
def execSetInterruptEnable (enable : Bool) (s : State) : Answered :=
  if s.membership.link = .down then .next s else .next (s.setEnable enable)

/-- R169: the value of byte `i` of a read-write word after a write with byte enables. -/
def mergedByte (old value : Word) (enables : BitVec 4) (i : Nat) : Nat :=
  if enables.getLsbD i then (byteOf value i).toNat else (byteOf old i).toNat

/-- R169: a write acts on the enabled bytes of a read-write word. -/
def mergeBytes (old value : Word) (enables : BitVec 4) : Word :=
  BitVec.ofNat 32 (mergedByte old value enables 0 + 256 * mergedByte old value enables 1 +
    65536 * mergedByte old value enables 2 + 16777216 * mergedByte old value enables 3)

/-- REGISTER_WRITE (R165, R169, R170): a command word stores the enabled bytes; a read-only word ignores the write. -/
def execRegisterWrite (w : PlainWord) (value : Word) (enables : BitVec 4) (s : State) : Answered :=
  if s.membership.link = .down then .next s
  else
    match w with
    | .command i =>
      .next (s.setCmd { s.cmd with words := s.cmd.words.set i (mergeBytes s.cmd.words[i] value enables) })
    | .resultCode => .next s
    | .result _ => .next s
    | .stationStatus => .next s
    | .record _ => .next s

end Sys2Proof.Machine
end

