-- ==== Sys2Proof/Machine/Resets.lean ====
section
/-! DEFINITION. The two resets: RESET_ASSERTED, RESET_RELEASED, STATION_RESET. -/

namespace Sys2Proof.Machine

/-- RESET_ASSERTED (R37, and every block's reset rule): link state DOWN, every block cleared, the access in flight
abandoned (R155). Last reason, adopted parameters and sampled straps keep their values until the release. -/
def execResetAsserted (s : State) : Answered :=
  let s1 := s.clearBlocks
  .next ((s1.setPort MemPort.reset).setMembership { s1.membership with link := .down })

/-- RESET_RELEASED (R2, R37): the straps are sampled and the station comes up, out of step and without a record. -/
def execResetReleased (pins : StrapPins) (s : State) : Answered :=
  if s.membership.link = .down then .next (s.comeUp pins) else .fault .resetNotAsserted

/-- R156: the memory port at STATION_RESET: waiting requests cleared, the access in flight made an orphan. -/
def MemPort.stationReset (p : MemPort) : MemPort :=
  { MemPort.reset with inFlight := p.inFlight, orphan := p.inFlight.isSome }

/-- STATION_RESET (R62, R164, R167, R171): every block returns to its state after a pin reset, the straps are sampled
again, and the RESET note is granted into the fresh log. While RESET is asserted the write is ignored (R170). -/
def execStationReset (pins : StrapPins) (s : State) : Answered :=
  if s.membership.link = .down then .next s
  else
    .next (((s.clearBlocks.setPort s.port.stationReset).comeUp pins).note (.change .reset))

end Sys2Proof.Machine
end

