-- ==== Sys2Proof/Machine/Tenure.lean ====
section
/-! DEFINITION. Tenures (chapter 1, sections 1.3 to 1.9; chapter 7, section 7.3): TENURE_HEADER, FRAME, VERDICT_MARK,
VERDICT_SAMPLE, TRUNCATION, ECHO_WITHDRAWAL, ECHO_MISMATCH_TENURE. -/

namespace Sys2Proof.Machine

/-! ## The header -/

/-- R27: the entry at the contest rank is missing or holds another ID than the header's sender. -/
def State.disagrees (s : State) (sender : StationId) : Bool :=
  match s.contestRank with
  | none => false
  | some r =>
    match s.order.list[r]? with
    | some e => !(e.id == sender)
    | none => true

/-- R27: the header comparison. -/
def State.compareHeader (s : State) (sender : StationId) : State :=
  s.setOrder { s.order with disagree := s.order.disagree || s.disagrees sender }

/-- R10, R15: this station is a destination of the tenure; not if its own echo failed in it. -/
def State.isDestination (s : State) (h : Header) : Bool :=
  ((s.membership.link == .member) || (s.membership.link == .leaving)) && !s.bus.echoFailed &&
    match h.dest with
    | .station id => id == s.straps.id
    | .all => !(h.sender == s.straps.id)

/-- R136: a tenure number that differs from the number of every tenure with a frame in the queue (log 23). -/
def freshTenure (queue : List QueuedFrame) : Nat := (queue.map fun f => f.tenure).foldl max 0 + 1

/-- R121: the tenure vote is opened at a destination. -/
def State.openVote (s : State) (h : Header) : State :=
  s.setLanding
    { s.landing with
      vote := some
        { window := h.window, sender := h.sender, running := .accept, accepted := 0,
          tenure := freshTenure s.landing.queue } }

/-- R9, R10: a good header is recorded and compared, and the destination decision taken. -/
def State.takeHeader (s : State) (h : Header) : State :=
  let s1 := s.compareHeader h.sender
  let s2 := s1.setBus { s1.bus with header := .good h, framesReceived := 0, destination := s.isDestination h }
  if s.isDestination h then s2.openVote h else s2

/-- TENURE_HEADER (R9, R10, R23, R27, R121). -/
def execTenureHeader (w : WireHeader) (s : State) : Answered :=
  if s.follows then
    if s.bus.phase = .tenure ∧ s.bus.header = .awaited ∧ s.bus.verdict = .closed then
      match goodHeader w with
      | some h => .next (s.activity.takeHeader h)
      | none => .next (s.activity.setBus { s.bus with header := .unreadable })
    else .fault .notAtThisPoint
  else .next s

/-! ## Frames -/

/-- How bad a vote is (R121). -/
def voteRank : Vote → Nat
  | .accept => 0
  | .retry => 1
  | .refuse => 2

/-- R121: the worse of two votes. -/
def worseVote (a b : Vote) : Vote := if voteRank a < voteRank b then b else a

/-- Figure 7-4, conditions 1 to 6: no later event on the bus can change them. -/
def refusesFrame (x : Window) (sender : StationId) (f : WireFrame) : Bool :=
  !(x.state == .opened) || !(x.filter.getLsbD sender.val) ||
    match x.kind, f.offset with
    | .table, none => true
    | .once, some _ => true
    | .ring, some _ => true
    | .once, none => decide (x.size < x.accepted.toNat + f.payload.length)
    | .table, some o => decide (x.size < o.toNat + f.payload.length)
    | .ring, none => decide (x.size < f.payload.length)

/-- Figure 7-4, conditions 7 and 8: RING space, and the landing queue's room. -/
def defersFrame (x : Window) (queued : Nat) (f : WireFrame) : Bool :=
  ((x.kind == .ring) && decide (x.size < (x.accepted - x.consumed).toNat + f.payload.length)) ||
    decide (Config.landingCapacity ≤ queued)

/-- R122, Figure 7-4: the frame's vote. -/
def frameVote (x : Window) (queued : Nat) (sender : StationId) (f : WireFrame) : Vote :=
  if refusesFrame x sender f then .refuse else if defersFrame x queued f then .retry else .accept

/-- R119, R120, R123: the queued frame that an accepted frame becomes. -/
def queuedFrameOf (x : Window) (v : TenureVote) (sender : StationId) (f : WireFrame) : QueuedFrame :=
  { window := v.window
    sender := sender
    target := match f.offset with
      | some o => BitVec.ofNat 32 o.toNat
      | none => x.accepted
    ringPos := if x.kind = .ring then x.ringPos else 0
    last := f.last
    payload := f.payload
    tenure := v.tenure
    released := false }

/-- R119, R123: A and the ring position advance by an accepted frame's payload length in a STREAM window. -/
def Window.acceptBytes (x : Window) (n : Nat) : Window :=
  if x.isStream then
    { x with accepted := x.accepted + BitVec.ofNat 32 n
             ringPos := if x.kind = .ring then (x.ringPos + n) % x.size else x.ringPos }
  else x

/-- R121 to R124: the landing unit takes a frame handed to it. -/
def State.landFrame (s : State) (sender : StationId) (f : WireFrame) : State :=
  match s.landing.vote with
  | none => s
  | some v =>
    let x := s.win v.window
    let vote := frameVote x s.landing.queue.length sender f
    let v' := { v with running := worseVote v.running vote }
    match vote with
    | .accept =>
      let s1 := s.setWin v.window (x.acceptBytes f.payload.length)
      s1.setLanding
        { s1.landing with queue := s1.landing.queue ++ [queuedFrameOf x v sender f]
                          vote := some { v' with accepted := v.accepted + 1 } }
    | .retry => s.setLanding { s.landing with vote := some v' }
    | .refuse => s.setLanding { s.landing with vote := some v' }

/-- R12: the three checks of an arriving frame, `n` being the count of frames received with it. -/
def frameGood (h : Header) (n : Nat) (f : WireFrame) : Bool :=
  (f.index.val + 1 == n) && decide (n ≤ h.frameCount) && frameCheckGood f

/-- R12: a frame at a station that holds a good header. -/
def State.takeFrameArrival (s : State) (h : Header) (f : WireFrame) : State :=
  let n := s.bus.framesReceived + 1
  let s1 := s.setBus { s.bus with framesReceived := n }
  if s.bus.destination then
    if frameGood h n f then s1.landFrame h.sender f
    else s1.setBus { s1.bus with frameFailures := s.bus.frameFailures + 1 }
  else s1

/-- FRAME (R1, R12, R23). A frame mark outside TENURE is ignored. -/
def execFrame (f : WireFrame) (s : State) : Answered :=
  if f.wellFormed then
    if s.follows && (s.bus.phase == .tenure) then
      if s.bus.verdict = .closed then
        match s.bus.header with
        | .good h => .next (s.activity.takeFrameArrival h f)
        | .awaited => .next s.activity
        | .unreadable => .next s.activity
      else .fault .notAtThisPoint
    else .next s
  else .fault .illFormedOperand

/-! ## The verdict slot -/

/-- R125, Figure 7-5: the station's vote, frame failures counted as votes of RETRY. -/
def State.stationVote (s : State) (failures : Nat) : Vote :=
  match s.landing.vote with
  | none => .retry
  | some v =>
    let state := (s.win v.window).state
    if v.running = .refuse then .refuse
    else if 1 ≤ v.accepted ∧ (state = .closing ∨ state = .faulted) then .refuse
    else if v.running = .retry ∨ 0 < failures then .retry
    else .accept

/-- R12: the frames of the header's count that have not arrived, at a destination. -/
def State.missingFrames (s : State) : Nat :=
  match s.bus.header with
  | .good h => if s.bus.destination then h.frameCount - s.bus.framesReceived else 0
  | .awaited => 0
  | .unreadable => 0

/-- R17, Figure 1-5: the line raised at the verdict mark, top row first. -/
def State.lineToRaise (s : State) (failures : Nat) : Option Vote :=
  if s.membership.link = .out ∨ s.follows = false then none
  else if s.bus.echoFailed then some .retry
  else if s.bus.header = .unreadable then some .retry
  else if s.bus.destination then some (s.stationVote failures)
  else none

/-- VERDICT_MARK (R1, R12, R17, R23, R125). A verdict mark outside TENURE is ignored. -/
def execVerdictMark (s : State) : Answered :=
  if s.follows && (s.bus.phase == .tenure) then
    if s.bus.verdict = .closed then
      let failures := s.bus.frameFailures + s.missingFrames
      .next
        (s.activity.setBus
          { s.bus with frameFailures := failures, verdict := .opened (s.lineToRaise failures) })
    else .fault .notAtThisPoint
  else .next s

/-- A wired-OR verdict line: raised on the medium, or raised by this station. -/
def lineShows (sampled : Bool) (raised : Option Vote) (v : Vote) : Bool := sampled || (raised == some v)

/-- R18, Figure 1-6: the outcome of the three lines. -/
def outcomeOfLines (lines : Lines) (raised : Option Vote) : TenureOutcome :=
  if lineShows lines.refuse raised .refuse then .refuse
  else if lineShows lines.retry raised .retry then .retry
  else if lineShows lines.accept raised .accept then .commit
  else .unclaimed

/-- VERDICT_SAMPLE (R18, R20). -/
def execVerdictSample (lines : Lines) (s : State) : Answered :=
  if s.follows then
    match s.bus.phase, s.bus.verdict with
    | .tenure, .opened raised => .next (s.tenureEnd (outcomeOfLines lines raised))
    | _, _ => .fault .notAtThisPoint
  else .next s

/-- TRUNCATION (R19, R20). -/
def execTruncation (s : State) : Answered :=
  if s.follows then
    if s.bus.phase = .tenure ∧ s.bus.verdict = .closed then .next (s.tenureEnd .aborted)
    else .fault .notAtThisPoint
  else .next s

/-! ## The echo rule in a tenure -/

/-- The channel has a stop pending, so a withdrawal ends its segment and makes it a waiting producer (R111). -/
def State.stopPendingAt (s : State) (c : ChannelNo) : Bool :=
  match (s.chan c).state, (s.chan c).current with
  | .onBus, some seg => seg.stopPending
  | _, _ => false

/-- R14, R57, R106: the withdrawal is reported to the membership unit and to the channel, in an order drawn where both
have a record to place (log 16). -/
def State.reportWithdrawal (s : State) (c : ChannelNo) : State :=
  if s.stopPendingAt c then
    let (channelFirst, s1) := s.draw
    if channelFirst then (s1.channelWithdrawal c).tenureCollision else s1.tenureCollision.channelWithdrawal c
  else (s.channelWithdrawal c).tenureCollision

/-- ECHO_WITHDRAWAL (R14): the mismatch falls in the sender ID field, so this station drives its own tenure and no header
has arrived. -/
def execEchoWithdrawal (s : State) : Answered :=
  match s.bus.phase, s.bus.drive, s.bus.header, s.bus.verdict with
  | .tenure, .tenure c, .awaited, .closed => .next ((s.setBus { s.bus with drive := .nothing }).reportWithdrawal c)
  | _, _, _, _ => .fault .notDriving

/-- ECHO_MISMATCH_TENURE (R15, R102): the station stops driving, notes the echo failure, is no destination, and its
channel takes ABORTED at once. -/
def execEchoMismatchTenure (s : State) : Answered :=
  match s.bus.phase, s.bus.drive, s.bus.verdict with
  | .tenure, .tenure c, .closed =>
    .next
      ((s.setBus { s.bus with drive := .nothing, echoFailed := true, destination := false }).channelOutcome c .aborted)
  | _, _, _ => .fault .notDriving

end Sys2Proof.Machine
end

