-- ==== Sys2Proof/Machine/WindowCommands.lean ====
section
/-! DEFINITION. The window commands (chapter 7): OPEN, CLOSE, CONSUME, REARM, QUERY_WINDOW. -/

namespace Sys2Proof.Machine

/-- R127: the record of a window as OPEN leaves it; a note pending from its previous opening stays. -/
def Window.opening (x : Window) (f : OpenFields) : Window :=
  { state := .opened, kind := f.kind, base := f.base, size := f.size, filter := f.filter, notify := f.notify,
    accepted := 0, commitMark := 0, visible := 0, consumed := 0, ringPos := 0, committedFrames := 0, lastSender := none,
    faultAddr := none, note := x.note }

/-- R127: OPEN: the fields first, then the state. -/
def State.openCommand (s : State) : State × Reply :=
  match openFields s.cmd.words with
  | none => (s, reply .badField)
  | some (w, f) =>
    if (s.win w).state = .closed then (s.setWin w ((s.win w).opening f), reply .ok) else (s, reply .wrongState)

/-- OPEN (R127). -/
def execOpen (s : State) : Answered := s.takeCommand 0x08 State.openCommand

/-- R128, R145: CLOSE at its window. From OPEN and FULL the window drains, and is CLOSED at once with nothing queued. -/
def State.closeCommand (s : State) (w : WindowNo) : State × Reply :=
  let drain := (((s.setWin w { s.win w with state := .closing }).drainTest w).offer (.window w), reply .ok)
  match (s.win w).state with
  | .opened => drain
  | .full => drain
  | .faulted =>
    (((s.setWin w { s.win w with state := .closed }).windowEvent w .closed).offer (.window w), reply .ok)
  | .closing => (s, reply .wrongState)
  | .closed => (s, reply .wrongState)

/-- CLOSE (R128). -/
def execClose (s : State) : Answered := s.takeCommand 0x09 fun s => s.onWindow s.closeCommand

/-- R130: CONSUME at its window: state, then kind, then the byte count against V − consumed. -/
def State.consumeCommand (s : State) (w : WindowNo) : State × Reply :=
  let x := s.win w
  let n := s.cmd.words[1]
  if x.state ≠ .opened then (s, reply .wrongState)
  else if x.kind ≠ .ring then (s, reply .badField)
  else if (x.visible - x.consumed).toNat < n.toNat then (s, reply .badField)
  else (s.setWin w { x with consumed := x.consumed + n }, reply .ok)

/-- CONSUME (R130). -/
def execConsume (s : State) : Answered := s.takeCommand 0x0A fun s => s.onWindow s.consumeCommand

/-- R132: the record of a window as REARM leaves it. -/
def Window.rearmed (x : Window) : Window :=
  { x with state := .opened, accepted := 0, commitMark := 0, visible := 0, consumed := 0, committedFrames := 0 }

/-- R132: REARM at its window. -/
def State.rearmCommand (s : State) (w : WindowNo) : State × Reply :=
  if (s.win w).state = .full then (s.setWin w (s.win w).rearmed, reply .ok) else (s, reply .wrongState)

/-- REARM (R132). -/
def execRearm (s : State) : Answered := s.takeCommand 0x0B fun s => s.onWindow s.rearmCommand

/-- The number of frames of the window in the landing queue (Figure 7-7). -/
def State.queuedOf (s : State) (w : WindowNo) : Nat := (s.landing.queue.filter fun f => f.window == w).length

/-- Figure 10-13, part 2, word 2, bits 17:16: the event of the pending note. With no note pending the figure gives no value,
and the model shows 0: its choice (log 28). -/
def noteEventCode : Option WindowEvent → Nat
  | some e => eventCode e
  | none => 0

/-- R133, Figure 10-13: the result words of a part of a window record; none for a part number above 2. That an absent last
sender shows 0 in bits 23:20 is the model's choice (log 29). -/
def State.windowWords (s : State) (w : WindowNo) (part : Nat) : Option (Vector Word 4) :=
  let x := s.win w
  match part with
  | 0 =>
    some #v[putField 0 (windowStateCode x.state) ||| putField 4 (kindCode x.kind) ||| putField 8 (notifyCode x.notify) |||
        putField 16 x.filter.toNat,
      x.base, BitVec.ofNat 32 x.size, 0]
  | 1 => some #v[x.accepted, x.commitMark, x.visible, x.consumed]
  | 2 =>
    some #v[putField 0 x.committedFrames ||| putField 16 (flagCode x.lastSender.isSome) |||
        putField 20 (optionalId x.lastSender),
      x.faultAddr.getD 0,
      putField 0 (flagCode x.faultAddr.isSome) ||| putField 8 (s.queuedOf w) ||| putField 16 (noteEventCode x.note) |||
        putField 19 (flagCode x.note.isSome),
      0]
  | _ => none

/-- R133: QUERY_WINDOW at its window. -/
def State.queryWindow (s : State) (w : WindowNo) : State × Reply :=
  match s.windowWords w (getField s.cmd.words[1] 0 8) with
  | some words => (s, { code := .ok, words := words })
  | none => (s, reply .badField)

/-- QUERY_WINDOW (R133). -/
def execQueryWindow (s : State) : Answered := s.takeCommand 0x0C fun s => s.onWindow s.queryWindow

end Sys2Proof.Machine
end

