-- ==== Sys2Proof/Machine/Dispatch.lean ====
section
/-! DEFINITION. One arm per command: the effect of a command on everything but the queue. -/

namespace Sys2Proof.Machine

def exec (i : Instr) (s : State) : Host.Outcome State Fault Refusal :=
  match i with
  | .startMark => Sys2Proof.Machine.execStartMark s
  | .contestLoss => Sys2Proof.Machine.execContestLoss s
  | .claimCodeEnd code => Sys2Proof.Machine.execClaimCodeEnd code s
  | .contestSilence => Sys2Proof.Machine.execContestSilence s
  | .stepInSilence => Sys2Proof.Machine.execStepInSilence s
  | .tenureHeader h => Sys2Proof.Machine.execTenureHeader h s
  | .frame f => Sys2Proof.Machine.execFrame f s
  | .verdictMark => Sys2Proof.Machine.execVerdictMark s
  | .verdictSample lines => Sys2Proof.Machine.execVerdictSample lines s
  | .truncation => Sys2Proof.Machine.execTruncation s
  | .echoWithdrawal => Sys2Proof.Machine.execEchoWithdrawal s
  | .echoMismatchTenure => Sys2Proof.Machine.execEchoMismatchTenure s
  | .echoMismatchCensus => Sys2Proof.Machine.execEchoMismatchCensus s
  | .censusHeader h => Sys2Proof.Machine.execCensusHeader h s
  | .censusSlotTime => Sys2Proof.Machine.execCensusSlotTime s
  | .slotMark => Sys2Proof.Machine.execSlotMark s
  | .listSlotAnswer a => Sys2Proof.Machine.execListSlotAnswer a s
  | .joinSlotAnswer a => Sys2Proof.Machine.execJoinSlotAnswer a s
  | .endMark => Sys2Proof.Machine.execEndMark s
  | .censusAbandonSilence => Sys2Proof.Machine.execCensusAbandonSilence s
  | .idleTimerExpiry => Sys2Proof.Machine.execIdleTimerExpiry s
  | .formationTimerExpiry => Sys2Proof.Machine.execFormationTimerExpiry s
  | .resetAsserted => Sys2Proof.Machine.execResetAsserted s
  | .resetReleased pins => Sys2Proof.Machine.execResetReleased pins s
  | .paceActive c level => Sys2Proof.Machine.execPaceActive c level s
  | .frameReadCompletion words => Sys2Proof.Machine.execFrameReadCompletion words s
  | .readFault => Sys2Proof.Machine.execReadFault s
  | .staleReadCompletion => Sys2Proof.Machine.execStaleReadCompletion s
  | .landingWriteCompletion => Sys2Proof.Machine.execLandingWriteCompletion s
  | .splitFirstPartCompletion => Sys2Proof.Machine.execSplitFirstPartCompletion s
  | .writeFault => Sys2Proof.Machine.execWriteFault s
  | .orphanCompletion => Sys2Proof.Machine.execOrphanCompletion s
  | .push => Sys2Proof.Machine.execPush s
  | .stop => Sys2Proof.Machine.execStop s
  | .resume => Sys2Proof.Machine.execResume s
  | .flush => Sys2Proof.Machine.execFlush s
  | .queryChannel => Sys2Proof.Machine.execQueryChannel s
  | .openWindow => Sys2Proof.Machine.execOpen s
  | .closeWindow => Sys2Proof.Machine.execClose s
  | .consume => Sys2Proof.Machine.execConsume s
  | .rearm => Sys2Proof.Machine.execRearm s
  | .queryWindow => Sys2Proof.Machine.execQueryWindow s
  | .leave => Sys2Proof.Machine.execLeave s
  | .join => Sys2Proof.Machine.execJoin s
  | .stationReset pins => Sys2Proof.Machine.execStationReset pins s
  | .unknownCommand code => Sys2Proof.Machine.execUnknownCommand code s
  | .pop enable => Sys2Proof.Machine.execPop enable s
  | .setInterruptEnable enable => Sys2Proof.Machine.execSetInterruptEnable enable s
  | .registerWrite w value enables => Sys2Proof.Machine.execRegisterWrite w value enables s

end Sys2Proof.Machine
end

