-- ==== Sys2Proof/Safety.lean ====
section
/-! DEFINITION. What a state must satisfy to be a state the part can be in: capacities, the order list, the producers of
the log, the bus controller, the membership unit, the channels with their reads, and the landing unit. Each is a
predicate that every step keeps; none is assumed by a meaning. -/

namespace Sys2Proof.Machine

/-! ## Capacities -/

/-- R64, R79: the limits of a channel's queue and count. -/
def Channel.WithinLimits (ch : Channel) : Prop :=
  ch.staged.length ≤ Config.stagedCapacity ∧ ch.flushCount ≤ Config.flushCountLimit

/-- R39, R64, R79, R136, R138, R157: every queue and counter of the part is within its limit. -/
def State.WithinLimits (s : State) : Prop :=
  s.log.records.length ≤ Config.logCapacity ∧ s.landing.queue.length ≤ Config.landingCapacity ∧
    s.membership.tenureCounter ≤ Config.tenureCounterLimit ∧ (∀ c, (s.chan c).WithinLimits) ∧
    ∀ w, (s.win w).committedFrames ≤ Config.frameCountLimit

/-! ## The order list -/

/-- R24: a list of at most sixteen entries, no station ID twice. -/
abbrev WellFormedList (list : List Entry) : Prop := list.length ≤ 16 ∧ (list.map fun e => e.id).Nodup

/-- R24: the order list is well formed, and so is the reference list of a census in progress, from which the next list
comes. -/
def State.OrderSound (s : State) : Prop :=
  WellFormedList s.order.list ∧
    ∀ r, s.membership.census = some r → ∀ reference, r.reference = some reference → WellFormedList reference

/-! ## The producers of the log -/

/-- R158, R160: no producer waits while the log has room. -/
def State.NoIdleWaiter (s : State) : Prop :=
  s.log.records.length < Config.logCapacity → ∀ p, s.waiting p = false

/-! ## The bus controller -/

/-- What the controller holds belongs to the phase it is in (R1, R4, R6, R20, R21). -/
def State.BusSound (s : State) : Prop :=
  (s.membership.link = .down → s.bus.inStep = false) ∧
    (s.bus.inStep = false → s.bus.phase = .silent) ∧
    (∀ c, s.bus.drive = .claim c → s.bus.phase = .contest) ∧
    (∀ c, s.bus.drive = .tenure c → s.bus.phase = .tenure) ∧
    (∀ h part, s.bus.drive = .census h part → s.bus.phase = .census) ∧
    (s.bus.phase ≠ .tenure →
      s.bus.header = .awaited ∧ s.bus.verdict = .closed ∧ s.bus.echoFailed = false ∧ s.bus.destination = false) ∧
    (s.bus.phase ≠ .census → s.bus.answer = none ∧ s.bus.censusHeader = .awaited ∧ s.bus.slotMarks = 0) ∧
    ∀ c, (s.chan c).state = .onBus ↔ s.bus.drive = .tenure c

/-! ## The membership unit -/

/-- R36, R40, R41, R43, R45: timers, wants, rank and census record fit the link state and the phase. -/
def State.MembershipSound (s : State) : Prop :=
  (s.membership.idleTimer = .running ∨ s.membership.idleWant = true →
      s.membership.link = .member ∨ s.membership.link = .leaving) ∧
    (s.membership.formationTimer = .running ∨ s.membership.formationWant = true → s.membership.link = .listening) ∧
    (s.membership.link = .member ∨ s.membership.link = .leaving → s.ownRank.isSome = true) ∧
    (s.membership.link = .joining → s.membership.census.isSome = true) ∧
    (s.membership.census.isSome = true → s.bus.phase = .census)

/-! ## Channels and their reads -/

/-- The bytes of the frames of a tenure buffer. -/
def bufferBytes (buffer : List HeldFrame) : Nat := (buffer.map fun f => f.payload.length).sum

/-- R107: the three byte counts add up to the segment's length, and the held bytes are those of the tenure buffer. -/
def Segment.Accounted (seg : Segment) (buffer : List HeldFrame) : Prop :=
  seg.committed + seg.held + seg.unread = seg.record.length ∧ seg.held = bufferBytes buffer

/-- R84, R86: the source pointer stands after the bytes committed and held. -/
def Segment.PointerSound (seg : Segment) : Prop := seg.pointer = seg.record.source.toNat + seg.committed + seg.held

/-- A channel with nothing current (R77, R82). -/
def Channel.Empty (ch : Channel) : Prop :=
  ch.current = none ∧ ch.buffer = [] ∧ ch.ending = none ∧ ch.deferred = false

/-- R67, R77, R82, R87, R92, R100, R107, R110: what a channel holds in each of its states. -/
def Channel.Sound (ch : Channel) : Prop :=
  (∀ r ∈ ch.staged, r.valid = true) ∧
    match ch.state, ch.current with
    | .idle, _ => ch.Empty
    | .halted, _ => ch.Empty
    | .assembling, some seg =>
      seg.record.valid = true ∧ seg.Accounted ch.buffer ∧ seg.PointerSound ∧ 0 < seg.unread ∧
        ch.buffer.length < seg.record.tenureSize ∧ seg.retry = 0 ∧ seg.stopPending = false ∧ ch.ending = none ∧
        (ch.deferred = true → ch.readOutstanding = true ∧ ch.buffer = [])
    | .ready, some seg =>
      seg.record.valid = true ∧ seg.Accounted ch.buffer ∧ seg.PointerSound ∧ ch.buffer ≠ [] ∧
        ch.buffer.length ≤ seg.record.tenureSize ∧ seg.retry < Config.retryLimit ∧ seg.stopPending = false ∧
        ch.ending = none ∧ ch.deferred = false ∧ ch.readOutstanding = false
    | .onBus, some seg =>
      seg.record.valid = true ∧ seg.Accounted ch.buffer ∧ seg.PointerSound ∧ ch.buffer ≠ [] ∧
        ch.buffer.length ≤ seg.record.tenureSize ∧ seg.retry < Config.retryLimit ∧
        ch.ending = none ∧ ch.deferred = false ∧ ch.readOutstanding = false
    | .ending, some seg =>
      seg.record.valid = true ∧ seg.Accounted [] ∧ ch.buffer = [] ∧ seg.retry ≤ Config.retryLimit ∧
        seg.stopPending = false ∧ ch.deferred = false ∧
        ∃ e, ch.ending = some e ∧ e.report.committed = seg.committed ∧ e.report.retry = seg.retry
    | .assembling, none => False
    | .ready, none => False
    | .onBus, none => False
    | .ending, none => False

/-- The port holds the request `r` of channel `c` in flight, for delivery. -/
def MemPort.Carries (p : MemPort) (c : ChannelNo) (r : ReadRequest) : Prop :=
  p.inFlight = some (.read c r) ∧ p.orphan = false

/-- R84, R92, R150: a channel has a read outstanding exactly when the port holds one request of it, waiting or in flight;
a request that is not stale is for the source pointer and the bytes that follow. -/
def State.ReadsSound (s : State) (c : ChannelNo) : Prop :=
  ((s.chan c).readOutstanding = true ↔ (∃ r, s.port.reads[c] = some r) ∨ ∃ r, s.port.Carries c r) ∧
    (∀ r r', s.port.reads[c] = some r → ¬ s.port.Carries c r') ∧
    ∀ r, s.port.reads[c] = some r ∨ s.port.Carries c r → (s.chan c).readIsStale = false →
      ∀ seg, (s.chan c).current = some seg → r = { addr := seg.pointer, count := min Config.frameBytes seg.unread }

/-- R89: a channel that assembles with no read outstanding waits for PACE: its segment is PACED, its PACE input is
inactive and no frame is held. -/
def State.PaceSound (s : State) (c : ChannelNo) : Prop :=
  (s.chan c).state = .assembling → (s.chan c).readOutstanding = false →
    s.pace[c] = false ∧ (s.chan c).buffer = [] ∧ (s.chan c).waitsForPace = true

/-- R153, R156: the arbiter leaves no request waiting while nothing is in flight, and only an access in flight is an
orphan. -/
def MemPort.Sound (p : MemPort) : Prop :=
  (p.inFlight = none → p.write = none ∧ ∀ c : ChannelNo, p.reads[c] = none) ∧
    (p.orphan = true → p.inFlight.isSome = true)

/-- The channels and the reads they have outstanding. -/
def State.ChannelsSound (s : State) : Prop :=
  s.port.Sound ∧ ∀ c, (s.chan c).Sound ∧ s.ReadsSound c ∧ s.PaceSound c

/-! ## The landing unit -/

/-- R136, R137: at most sixteen frames of 1 to 64 bytes; every tentative one belongs to the tenure whose vote is open, and
stands behind every released one. -/
def Landing.QueueSound (l : Landing) : Prop :=
  l.queue.length ≤ Config.landingCapacity ∧
    (∀ f ∈ l.queue, 1 ≤ f.payload.length ∧ f.payload.length ≤ Config.frameBytes) ∧
    (∀ f ∈ l.queue, f.released = false →
      ∃ v, l.vote = some v ∧ f.window = v.window ∧ f.sender = v.sender ∧ f.tenure = v.tenure) ∧
    l.queue.Pairwise fun f g => f.released = false → g.released = false

/-- The port holds this write of the landing writer, waiting or in flight. -/
def MemPort.HoldsWrite (p : MemPort) (w : WriteRequest) : Prop :=
  p.write = some w ∨ (p.inFlight = some (.write w) ∧ p.orphan = false)

/-- R140, R142: the writer is idle exactly when the head of the queue is no released frame, and otherwise the port holds
the write of the part in progress, and no other. -/
def State.WriterSound (s : State) : Prop :=
  match s.landing.queue with
  | [] => s.landing.writer = .idle ∧ ∀ w, ¬ s.port.HoldsWrite w
  | f :: _ =>
    if f.released then
      (s.landing.writer = .first ∧ ∀ w, s.port.HoldsWrite w → w = firstPart (s.win f.window) f) ∨
        (s.landing.writer = .second ∧ (splitAt (s.win f.window) f).isSome = true ∧
          ∀ w, s.port.HoldsWrite w → w = secondPart (s.win f.window) f)
    else s.landing.writer = .idle ∧ ∀ w, ¬ s.port.HoldsWrite w

/-- A writer at work has its request with the port, once (R140). -/
def State.WriterServed (s : State) : Prop :=
  (s.landing.writer ≠ .idle → ∃ w, s.port.HoldsWrite w) ∧
    ¬ (s.port.write.isSome = true ∧ s.port.orphan = false ∧ ∃ w, s.port.inFlight = some (.write w))

/-- R121, R20: a vote is open only in a tenure in step, for the good header recorded. -/
def State.VoteSound (s : State) : Prop :=
  ∀ v, s.landing.vote = some v →
    s.bus.inStep = true ∧ s.bus.phase = .tenure ∧
      ∃ h, s.bus.header = .good h ∧ h.window = v.window ∧ h.sender = v.sender

/-- The bytes of a window's frames in the landing queue that carry the mark given. -/
def Landing.bytesOf (l : Landing) (w : WindowNo) (released : Bool) : Nat :=
  ((l.queue.filter fun f => (f.window == w) && (f.released == released)).map fun f => f.payload.length).sum

/-- R118: in a STREAM window that is OPEN, CLOSING or FULL, A is C and the tentative bytes, and C is V and the released
bytes, modulo 2^32. -/
def State.OffsetsSound (s : State) (w : WindowNo) : Prop :=
  (s.win w).isStream = true →
    ((s.win w).state = .opened ∨ (s.win w).state = .closing ∨ (s.win w).state = .full) →
      (s.win w).accepted = (s.win w).commitMark + BitVec.ofNat 32 (s.landing.bytesOf w false) ∧
        (s.win w).commitMark = (s.win w).visible + BitVec.ofNat 32 (s.landing.bytesOf w true)

/-- R117, Figure 7-4: the offsets of an ONCE window that is OPEN, CLOSING or FULL stay within its size, V at most C and C
at most A; no window of another kind is FULL. -/
def Window.OnceSound (x : Window) : Prop :=
  (x.state = .full → x.kind = .once) ∧
  (x.kind = .once → (x.state = .opened ∨ x.state = .closing ∨ x.state = .full) →
    x.visible.toNat ≤ x.commitMark.toNat ∧ x.commitMark.toNat ≤ x.accepted.toNat ∧ x.accepted.toNat ≤ x.size ∧
      x.size ≤ Config.maxSpan ∧ (x.state = .full → x.visible.toNat = x.size))

/-- R118, R119, Figure 7-4: in a RING window that is OPEN or CLOSING the ring position lies in the region, and counted
from the consumed offset V is at most C, C at most A and A at most the size. -/
def Window.RingSound (x : Window) : Prop :=
  x.kind = .ring → (x.state = .opened ∨ x.state = .closing) →
    x.ringPos < x.size ∧ x.size ≤ Config.maxSpan ∧
      (x.visible - x.consumed).toNat ≤ (x.commitMark - x.consumed).toNat ∧
      (x.commitMark - x.consumed).toNat ≤ (x.accepted - x.consumed).toNat ∧
      (x.accepted - x.consumed).toNat ≤ x.size

/-- R119, R120, Figure 7-4: a queued frame has its place inside the region of its window. -/
def QueuedFrame.Inside (f : QueuedFrame) (x : Window) : Prop :=
  match x.kind with
  | .once => f.target.toNat + f.payload.length ≤ x.size
  | .table => f.target.toNat + f.payload.length ≤ x.size
  | .ring => f.ringPos < x.size ∧ f.payload.length ≤ x.size

/-- R117, R140: a window that is CLOSED, FULL or FAULTED has no frame in the landing queue. -/
def State.DrainSound (s : State) (w : WindowNo) : Prop :=
  ((s.win w).state = .closed ∨ (s.win w).state = .full ∨ (s.win w).state = .faulted) → s.hasQueued w = false

/-- The landing unit with its writer, vote and windows. -/
def State.LandingSound (s : State) : Prop :=
  s.landing.QueueSound ∧ s.WriterSound ∧ s.WriterServed ∧ s.VoteSound ∧
    (∀ f ∈ s.landing.queue, f.Inside (s.win f.window)) ∧
    ∀ w, s.OffsetsSound w ∧ (s.win w).OnceSound ∧ (s.win w).RingSound ∧ s.DrainSound w

/-! ## What a host finds -/

/-- The result words of every command but a query that succeeds (R165). -/
def noWords : Vector Word 4 := Vector.replicate 4 0

/-- The state after a command of the given code has been answered (R165). -/
def State.answered (s : State) (code : BitVec 8) (result : ResultCode) (words : Vector Word 4) : State :=
  { s with cmd := { s.cmd with code := code, result := result, results := words } }

/-- R159: the producers of the log numbered in their order. -/
def producerNumber : Producer → Nat
  | .membership => 0
  | .channel c => 1 + c.val
  | .window w => 5 + w.val

/-- R159: how far a producer stands behind the grant pointer: 0 for the one after it, 20 for the one it names. -/
def producerDistance (pointer p : Producer) : Nat := (producerNumber p + 20 - producerNumber pointer) % 21

/-- R95, R153: how far a channel stands behind another in channel number order: 0 for the one after it, 3 for itself. -/
def channelDistance (last c : ChannelNo) : Nat := (c - last - 1).val

/-- A station that hears the exchange bus: not DOWN, and in step (R1, R2). -/
abbrev State.Hears (s : State) : Prop := s.bus.inStep = true ∧ s.membership.link ≠ .down

/-! ## The whole part -/

/-- All of the above together. -/
def State.Sound (s : State) : Prop :=
  s.WithinLimits ∧ s.OrderSound ∧ s.NoIdleWaiter ∧ s.BusSound ∧ s.MembershipSound ∧ s.ChannelsSound ∧ s.LandingSound

end Sys2Proof.Machine
end

