-- ==== Sys2Proof/Certificates/Slice0/Obligations.lean ====
section
/-! DEFINITION. The statements for the provers, chapter by chapter. -/

section

open Sys2Proof Sys2Proof.Machine

/-! ## The machine -/

/-- A step carries out the command at the front of the queue on the state with the queue's rest (95: each row is one
whole step), and no command changes the queue; with nothing waiting the block idles (the model's choice, log 3). -/
def Obligations.StepTakesTheFrontCommand : Prop :=
  (∀ (c : Instr) (rest : List Instr) (s : State),
      step { s with pending := c :: rest } = exec c { s with pending := rest }) ∧
    (∀ (c : Instr) (s t : State), exec c s = .next t → t.pending = s.pending) ∧
    ∀ s : State, s.pending = [] → step s = .next s

/-- What the rules give for a station whose RESET is asserted: R2, R34, R37, R82, R96, R97, R115, R134, R148, R155,
R164, R171; and that it is a sound state, from which every step leads to sound states. -/
def Obligations.ResetState : Prop :=
  State.reset.membership.link = .down ∧ State.reset.membership.tenureCounter = 0 ∧
    State.reset.membership.idleTimer = .stopped ∧ State.reset.membership.formationTimer = .stopped ∧
    State.reset.membership.idleWant = false ∧ State.reset.membership.formationWant = false ∧
    State.reset.membership.census = none ∧ State.reset.membership.note = none ∧
    State.reset.bus.inStep = false ∧ State.reset.bus.drive = .nothing ∧ State.reset.bus.winningCode = none ∧
    State.reset.bus.header = .awaited ∧ State.reset.bus.framesReceived = 0 ∧ State.reset.bus.frameFailures = 0 ∧
    State.reset.bus.echoFailed = false ∧
    State.reset.order.list = [] ∧ State.reset.order.disagree = false ∧ State.reset.ownRank = none ∧
    State.reset.memberCount = 0 ∧
    (∀ c, (State.reset.chan c).state = .idle ∧ (State.reset.chan c).current = none ∧
      (State.reset.chan c).buffer = [] ∧ (State.reset.chan c).staged = [] ∧ (State.reset.chan c).ending = none ∧
      (State.reset.chan c).flushCount = 0 ∧ (State.reset.chan c).readOutstanding = false ∧
      (State.reset.chan c).deferred = false) ∧
    State.reset.lastSent = 3 ∧
    (∀ w, (State.reset.win w).state = .closed ∧ (State.reset.win w).base = 0 ∧ (State.reset.win w).size = 0 ∧
      (State.reset.win w).filter = 0 ∧ (State.reset.win w).accepted = 0 ∧
      (State.reset.win w).commitMark = 0 ∧ (State.reset.win w).visible = 0 ∧
      (State.reset.win w).consumed = 0 ∧ (State.reset.win w).ringPos = 0 ∧ (State.reset.win w).committedFrames = 0 ∧
      (State.reset.win w).lastSender = none ∧ (State.reset.win w).faultAddr = none ∧ (State.reset.win w).note = none) ∧
    State.reset.landing.queue = [] ∧ State.reset.landing.vote = none ∧ State.reset.landing.writer = .idle ∧
    State.reset.port.inFlight = none ∧ State.reset.port.orphan = false ∧ State.reset.port.write = none ∧
    (∀ c : ChannelNo, State.reset.port.reads[c] = none) ∧ State.reset.port.lastServed = 3 ∧
    State.reset.log.records = [] ∧ State.reset.log.pointer = .membership ∧
    State.reset.cmd.words = noWords ∧ State.reset.cmd.code = 0 ∧ State.reset.cmd.result = .ok ∧
    State.reset.cmd.results = noWords ∧ State.reset.cmd.intEnable = false ∧ State.reset.intLevel = false ∧
    State.reset.Sound

/-! ## Contests and stepping in -/

/-- R1, R3, R4, R19, R22, R23: the beginning of a start mark. In SILENT or CONTEST a contest opens, in which the station
contends with its claim if it has one, and activity is reported; nothing else changes. In TENURE it first ends the
tenure as ABORTED, and in CENSUS it first abandons the census. -/
def Obligations.StartMarkOpensContest : Prop :=
  ∀ s : State, s.Hears →
    ((s.bus.phase = .silent ∨ s.bus.phase = .contest) →
      exec .startMark s = .next
        { s with
          membership := s.membership.activity
          bus := { s.bus with phase := .contest, winningCode := none, drive := s.claim.elim .nothing .claim } }) ∧
    (s.bus.phase = .tenure →
      exec .startMark s = exec .startMark (s.tenureEnd .aborted) ∧ (s.tenureEnd .aborted).Hears ∧
        (s.tenureEnd .aborted).bus.phase = .silent) ∧
    (s.bus.phase = .census →
      exec .startMark s = exec .startMark s.abandonCensus ∧ s.abandonCensus.Hears ∧
        s.abandonCensus.bus.phase = .silent)

/-- R1, R2, R23: a station out of step. A start mark makes it a listener of a contest, and the truncation silence brings
it into step in SILENT; an arrival or a silence reaches no block, nor does one at a station that is DOWN. A mark in a
phase that does not expect it is ignored. The model's, not the rules': that the start mark that steps a station in is
reported as activity (log 9), that an event out of step changes nothing at all (log 6), and that an ignored mark reports
no activity (log 7). -/
def Obligations.SteppingInAndIgnoredArrivals : Prop :=
  (∀ s : State, s.bus.inStep = false → s.membership.link ≠ .down →
    exec .startMark s = .next
      { s with
        membership := s.membership.activity
        bus := { s.bus with inStep := true, phase := .contest, winningCode := none, drive := .nothing } } ∧
    exec .stepInSilence s = .next { s with bus := { s.bus with inStep := true, phase := .silent } }) ∧
  (∀ (s : State), s.follows = false →
    (∀ code, exec (.claimCodeEnd code) s = .next s) ∧ exec .contestSilence s = .next s ∧
    (∀ h, exec (.tenureHeader h) s = .next s) ∧ (∀ f, f.wellFormed = true → exec (.frame f) s = .next s) ∧
    exec .verdictMark s = .next s ∧ (∀ l, exec (.verdictSample l) s = .next s) ∧ exec .truncation s = .next s ∧
    (∀ h, exec (.censusHeader h) s = .next s) ∧ exec .censusSlotTime s = .next s ∧ exec .slotMark s = .next s ∧
    (∀ a, a.wellFormed = true → exec (.listSlotAnswer a) s = .next s) ∧
    (∀ a, exec (.joinSlotAnswer a) s = .next s) ∧ exec .endMark s = .next s ∧
    exec .censusAbandonSilence s = .next s) ∧
  (∀ s : State, s.membership.link = .down → exec .startMark s = .next s ∧ exec .stepInSilence s = .next s) ∧
  (∀ s : State, s.bus.phase ≠ .tenure →
    (∀ f, f.wellFormed = true → exec (.frame f) s = .next s) ∧ exec .verdictMark s = .next s) ∧
  ∀ s : State, s.bus.phase ≠ .census → exec .slotMark s = .next s ∧ exec .endMark s = .next s

/-- R3, R4, R38, R42, R43, R93, Figure 3-4: when a station asks for a census, at its interval of 64, 256, 1024 or 4096
tenures or for a want, and when it wants a tenure; the census comes first; the five bits of either claim. -/
def Obligations.ClaimOfAContender : Prop :=
  [Interval.t64, .t256, .t1024, .t4096].map intervalTenures = [64, 256, 1024, 4096] ∧
  (∀ s : State,
    (s.wantsTenure = true ↔
      s.membership.link = .member ∧ s.ownRank.isSome = true ∧ s.bus.inStep = true ∧
        ∃ c, (s.chan c).state = .ready) ∧
    (s.membership.link = .member ∨ s.membership.link = .leaving →
      (s.wantsCensus = true ↔
        (intervalTenures s.membership.interval ≤ s.membership.tenureCounter ∧ s.ownRank = some 0) ∨
          intervalTenures s.membership.interval + 16 ≤ s.membership.tenureCounter ∨ s.membership.idleWant = true)) ∧
    (s.membership.link = .listening → s.wantsCensus = s.membership.formationWant) ∧
    (s.membership.link = .joining ∨ s.membership.link = .out ∨ s.membership.link = .down → s.wantsCensus = false) ∧
    (s.wantsCensus = true → s.claim = some (.census (s.membership.link == .listening))) ∧
    (s.wantsCensus = false → s.wantsTenure = true → s.claim = s.ownRank.map .tenure) ∧
    (s.wantsCensus = false → s.wantsTenure = false → s.claim = none)) ∧
  (∀ (id : StationId) (formation : Bool), (claimCode id (.census formation)).toNat = id.val) ∧
  ∀ (id : StationId) (rank : Nat), rank < 16 → (claimCode id (.tenure rank)).toNat = 16 + rank

/-- R13: an echo mismatch within the claim code is the loss of the contest: the station stops driving. No note, no
change of link state, no retry: nothing else changes. -/
def Obligations.ContestLossChangesNothingElse : Prop :=
  ∀ (s : State) (c : Claim), s.bus.phase = .contest → s.bus.drive = .claim c →
    exec .contestLoss s = .next { s with bus := { s.bus with drive := .nothing } }

/-- R1, R3, R4, R5, R6, R7, R8, R11, R44, R93: when a station begins a start mark (its wants are those of
`ClaimOfAContender`; one phase value stands for SILENT and the contest point, log 8), and what follows at the end of the
claim code. The five bits are recorded and the kind bit gives the phase. A station that did not reach the end driving
them drives nothing, one that still drives another code among them (it has lost, log 10). A tenure claim that won puts
the picked channel ON_BUS, or sends nothing where none is READY. A census claim that won sends the census header: its
fields as won, with a good check. The tenure sent has a header of the station's ID, the channel, the frame count,
destination and window with a good check, and then the frames of the tenure buffer, field for field, each with its place
as its index and a good check. -/
def Obligations.ClaimCodeEnd : Prop :=
  (∀ s : State, s.beginsStartMark = true ↔
    s.bus.inStep = true ∧ s.membership.link ≠ .down ∧ s.bus.phase = .silent ∧
      (s.wantsCensus = true ∨ s.wantsTenure = true)) ∧
  (∀ (s : State) (code : BitVec 5), s.Hears → s.bus.phase = .contest →
    (s.claimCodeSent ≠ some code →
      exec (.claimCodeEnd code) s = .next
        { s with bus := { s.bus with phase := if code.msb then .tenure else .census, winningCode := some code,
                                     drive := .nothing } }) ∧
    (∀ rank, rank < 16 → s.bus.drive = .claim (.tenure rank) → code.toNat = 16 + rank →
      (∀ c, s.turnPick = some c →
        exec (.claimCodeEnd code) s = .next
          { s with
            channels := s.channels.set c { s.chan c with state := .onBus }
            lastSent := c
            bus := { s.bus with phase := .tenure, winningCode := some code, drive := .tenure c } }) ∧
      (s.turnPick = none →
        exec (.claimCodeEnd code) s = .next
          { s with bus := { s.bus with phase := .tenure, winningCode := some code, drive := .nothing } })) ∧
    ∀ formation, s.bus.drive = .claim (.census formation) → code.toNat = s.straps.id.val →
      exec (.claimCodeEnd code) s = .next
        { s with
          bus :=
            { s.bus with
              phase := .census
              winningCode := some code
              drive := .census
                { claimant := s.straps.id
                  slots := if formation then 0 else s.memberCount
                  mode := if formation then s.straps.mode else s.membership.mode
                  interval := if formation then s.straps.interval else s.membership.interval } .header } }) ∧
  (∀ (s : State) (c : ChannelNo) (seg : Segment), s.bus.drive = .tenure c → (s.chan c).current = some seg →
    1 ≤ (s.chan c).buffer.length → (s.chan c).buffer.length ≤ 8 →
    (∃ w : WireHeader, s.headerSent = some w ∧
      w.sender = s.straps.id ∧ w.channel = c ∧ w.countField.val + 1 = (s.chan c).buffer.length ∧
      (∀ id : StationId, seg.record.dest = .station id → w.destField.val = id.val) ∧
      (seg.record.dest = .all → w.destField.val = 31) ∧ w.window = seg.record.window ∧
      w.check = check16 (wireHeaderBits w)) ∧
    s.framesSent.length = (s.chan c).buffer.length ∧
    ∀ (i : Nat) (f : HeldFrame), (s.chan c).buffer[i]? = some f →
      ∃ w : WireFrame, s.framesSent[i]? = some w ∧
        w.index.val = i ∧ w.last = f.last ∧ w.payload = f.payload ∧ w.check = check16 (wireFrameBits w) ∧
        (f.offset = none → w.offset = none) ∧
        ∀ o, f.offset = some o → o < 2 ^ 20 → ∃ sent, w.offset = some sent ∧ sent.toNat = o) ∧
  (∀ s : State, (∀ c, s.bus.drive ≠ .tenure c) → s.headerSent = none ∧ s.framesSent = []) ∧
  (∀ (s : State) (claim : Claim), s.bus.drive = .claim claim → s.claimCodeSent = some (claimCode s.straps.id claim)) ∧
  (∀ s : State, (∀ claim, s.bus.drive ≠ .claim claim) → s.claimCodeSent = none) ∧
  (∀ (s : State) (h : CensusHeader), s.bus.drive = .census h .header → h.slots ≤ 16 →
    ∃ w : WireCensusHeader, s.censusHeaderSent = some w ∧
      w.claimant = h.claimant ∧ w.slots.val = h.slots ∧ w.mode = h.mode ∧ w.interval = h.interval ∧
      w.check = check16 (wireCensusHeaderBits w)) ∧
  ∀ s : State, (∀ h, s.bus.drive ≠ .census h .header) → s.censusHeaderSent = none

/-- R95: the turn picker's choice. Counting the channels from the one after the last channel sent, the last channel sent
itself being last, the first READY channel is chosen; it is the channel whose tenure the winner sends. -/
def Obligations.TurnPickerOrder : Prop :=
  (∀ (s : State) (c : ChannelNo),
    s.turnPick = some c ↔
      (s.chan c).state = .ready ∧
        ∀ d : ChannelNo, (s.chan d).state = .ready → channelDistance s.lastSent c ≤ channelDistance s.lastSent d) ∧
  (∀ s : State, s.turnPick = none ↔ ∀ d : ChannelNo, (s.chan d).state ≠ .ready) ∧
  ∀ (s t : State) (code : BitVec 5) (c : ChannelNo), s.Hears →
    exec (.claimCodeEnd code) s = .next t → t.bus.drive = .tenure c → s.turnPick = some c

/-- R96: the last channel sent changes only by the turn picker's choice and by resets, which make it 3; no word of the
register window depends on it; after a reset the choice begins with TC0; and it chooses as the rows of Figure 5-6
say. -/
def Obligations.LastChannelSent : Prop :=
  (∀ (i : Instr) (s t : State), exec i s = .next t →
    t.lastSent = s.lastSent ∨
      (∃ code, i = .claimCodeEnd code ∧ s.turnPick = some t.lastSent ∧ t.bus.drive = .tenure t.lastSent) ∨
      (t.lastSent = 3 ∧ (i = .resetAsserted ∨ ∃ pins, i = .stationReset pins))) ∧
  (∀ s t : State, exec .resetAsserted s = .next t → t.lastSent = 3) ∧
  (∀ (s t : State) (pins : StrapPins), s.membership.link ≠ .down → exec (.stationReset pins) s = .next t →
    t.lastSent = 3) ∧
  (∀ (i : Instr) (s t : State), s.membership.link = .down → s.lastSent = 3 → exec i s = .next t → t.lastSent = 3) ∧
  (∀ (s : State) (x : ChannelNo) (index : Fin 16), ({ s with lastSent := x } : State).readWord index = s.readWord index) ∧
  (∀ s : State, s.lastSent = 3 → (s.chan 0).state = .ready → s.turnPick = some 0) ∧
  ∀ (s : State) (row : ChannelNo × List ChannelNo × Option ChannelNo),
    row ∈ [(3, [1, 2], some 1), (1, [0, 2, 3], some 2), (2, [0, 2], some 0), (0, [0], some 0), (0, [], none)] →
    s.lastSent = row.1 → (∀ c, (s.chan c).state = .ready ↔ c ∈ row.2.1) → s.turnPick = row.2.2

/-! ## Tenures -/

/-- R8, R9, R10, R15, R23, R27, R121, R136, Figures 10-15 to 10-17: the 16-bit check, and the arrival of a tenure
header. The check register starts at hex FFFF and takes each bit with the polynomial x^16 + x^12 + x^5 + 1; a field is
fed most significant bit first; the covered bits of a tenure header, a frame (an absent offset being its presence bit
alone), a census header and a list slot answer are their fields in the order sent (a join slot answer's is its station
ID: see `SlotAnswersHeard`). A header is good when its check is good and its destination field names a station or ALL. A
good one is recorded and compared with the order list, the destination decision is taken (a station whose echo failed is
none, R15), and a destination opens its vote, with a tenure number no queued frame has (R136). A bad one is noted as a
header failure. -/
def Obligations.TenureHeaderArrival : Prop :=
  check16 [] = 0xFFFF#16 ∧
  (∀ (bits : List Bool) (b : Bool),
    ((check16 bits).msb = b → check16 (bits ++ [b]) = check16 bits <<< 1) ∧
    ((check16 bits).msb ≠ b →
      check16 (bits ++ [b]) = (check16 bits <<< 1) ^^^ BitVec.ofNat 16 (2 ^ 12 + 2 ^ 5 + 2 ^ 0))) ∧
  (∀ n v : Nat, (bitsOf n v).length = n ∧ ∀ i < n, (bitsOf n v)[i]? = some (v.testBit (n - 1 - i))) ∧
  (∀ w : WireHeader,
    wireHeaderBits w =
      bitsOf 4 w.sender.val ++ bitsOf 2 w.channel.val ++ bitsOf 3 w.countField.val ++ bitsOf 5 w.destField.val ++
        bitsOf 4 w.window.val) ∧
  (∀ f : WireFrame,
    let rest := bitsOf 6 (f.payload.length - 1) ++ [f.last] ++ f.payload.flatMap fun b => bitsOf 8 b.toNat
    (f.offset = none → wireFrameBits f = bitsOf 3 f.index.val ++ [false] ++ rest) ∧
    ∀ o, f.offset = some o → wireFrameBits f = bitsOf 3 f.index.val ++ [true] ++ bitsOf 20 o.toNat ++ rest) ∧
  (∀ w : WireCensusHeader,
    wireCensusHeaderBits w =
      bitsOf 4 w.claimant.val ++ bitsOf 5 w.slots.val ++ bitsOf 1 (modeCode w.mode) ++ bitsOf 2 (intervalCode w.interval)) ∧
  (∀ a : WireListAnswer,
    wireListAnswerBits a =
      bitsOf 4 a.id.val ++ [a.leave] ++ bitsOf 5 a.entries.length ++
        a.entries.flatMap fun e => bitsOf 4 e.id.val ++ bitsOf 2 e.miss.val) ∧
  (∀ (w : WireHeader) (h : Header),
    goodHeader w = some h ↔
      check16 (wireHeaderBits w) = w.check ∧ h.sender = w.sender ∧ h.channel = w.channel ∧
        h.frameCount = w.countField.val + 1 ∧ h.window = w.window ∧
        ((∃ id : StationId, w.destField.val = id.val ∧ h.dest = .station id) ∨ (w.destField.val = 31 ∧ h.dest = .all))) ∧
  (∀ (s : State) (w : WireHeader), s.Hears → s.bus.phase = .tenure → s.bus.header = .awaited →
    s.bus.verdict = .closed →
    (goodHeader w = none →
      exec (.tenureHeader w) s = .next
        { s with membership := s.membership.activity, bus := { s.bus with header := .unreadable } }) ∧
    ∀ h, goodHeader w = some h →
      ∃ disagree destination : Bool,
        (disagree = true ↔ s.order.disagree = true ∨
          ∃ r, s.contestRank = some r ∧ ∀ e, s.order.list[r]? = some e → e.id ≠ h.sender) ∧
        (destination = true ↔
          (s.membership.link = .member ∨ s.membership.link = .leaving) ∧ s.bus.echoFailed = false ∧
            (h.dest = .station s.straps.id ∨ (h.dest = .all ∧ h.sender ≠ s.straps.id))) ∧
        exec (.tenureHeader w) s = .next
          { s with
            membership := s.membership.activity
            order := { s.order with disagree := disagree }
            bus := { s.bus with header := .good h, framesReceived := 0, destination := destination }
            landing :=
              if destination then
                { s.landing with
                  vote := some { window := h.window, sender := h.sender, running := .accept, accepted := 0,
                                 tenure := freshTenure s.landing.queue } }
              else s.landing }) ∧
  ∀ queue : List QueuedFrame, ∀ f ∈ queue, f.tenure ≠ freshTenure queue

/-- R12, R121, R123, R124: the arrival of a frame. A station without a good header takes nothing but the activity
report; one that is no destination counts the frame; a destination counts it, notes a failure where one of the three
checks fails, and otherwise hands it to its landing unit, which votes on it and queues it as tentative if it accepts
it. -/
def Obligations.FrameArrival : Prop :=
  ∀ (s : State) (f : WireFrame), f.wellFormed = true → s.Hears → s.bus.phase = .tenure → s.bus.verdict = .closed →
    ((s.bus.header = .awaited ∨ s.bus.header = .unreadable) →
      exec (.frame f) s = .next { s with membership := s.membership.activity }) ∧
    ∀ h, s.bus.header = .good h →
      (s.bus.destination = false →
        exec (.frame f) s = .next
          { s with membership := s.membership.activity
                   bus := { s.bus with framesReceived := s.bus.framesReceived + 1 } }) ∧
      (s.bus.destination = true →
        ¬ (f.index.val = s.bus.framesReceived ∧ s.bus.framesReceived + 1 ≤ h.frameCount ∧
            check16 (wireFrameBits f) = f.check) →
        exec (.frame f) s = .next
          { s with membership := s.membership.activity
                   bus := { s.bus with framesReceived := s.bus.framesReceived + 1,
                                       frameFailures := s.bus.frameFailures + 1 } }) ∧
      (s.bus.destination = true → f.index.val = s.bus.framesReceived → s.bus.framesReceived + 1 ≤ h.frameCount →
        check16 (wireFrameBits f) = f.check →
        ∀ v, s.landing.vote = some v →
          (frameVote (s.win v.window) s.landing.queue.length h.sender f = .accept →
            exec (.frame f) s = .next
              { s with
                membership := s.membership.activity
                bus := { s.bus with framesReceived := s.bus.framesReceived + 1 }
                landing :=
                  { s.landing with
                    windows := s.landing.windows.set v.window ((s.win v.window).acceptBytes f.payload.length)
                    queue := s.landing.queue ++ [queuedFrameOf (s.win v.window) v h.sender f]
                    vote := some { v with accepted := v.accepted + 1 } } }) ∧
          (frameVote (s.win v.window) s.landing.queue.length h.sender f ≠ .accept →
            exec (.frame f) s = .next
              { s with
                membership := s.membership.activity
                bus := { s.bus with framesReceived := s.bus.framesReceived + 1 }
                landing :=
                  { s.landing with
                    vote := some
                      { v with running :=
                          worseVote v.running (frameVote (s.win v.window) s.landing.queue.length h.sender f) } } }))

/-- R122, Figure 7-4; R119, R120, R123: a frame's vote, what an accepted frame becomes, and how the offsets of its
window move. -/
def Obligations.FrameVote : Prop :=
  (∀ (x : Window) (queued : Nat) (sender : StationId) (f : WireFrame),
    (frameVote x queued sender f = .refuse ↔
      x.state ≠ .opened ∨ x.filter.getLsbD sender.val = false ∨
        (x.kind = .table ∧ f.offset = none) ∨ (x.kind ≠ .table ∧ f.offset ≠ none) ∨
        (x.kind = .once ∧ x.size < x.accepted.toNat + f.payload.length) ∨
        (x.kind = .table ∧ ∃ o, f.offset = some o ∧ x.size < o.toNat + f.payload.length) ∨
        (x.kind = .ring ∧ x.size < f.payload.length)) ∧
    (frameVote x queued sender f ≠ .refuse →
      (frameVote x queued sender f = .retry ↔
        (x.kind = .ring ∧ x.size < (x.accepted - x.consumed).toNat + f.payload.length) ∨ 16 ≤ queued))) ∧
  (∀ a b : Vote, (worseVote a b = .refuse ↔ a = .refuse ∨ b = .refuse) ∧
    (worseVote a b = .accept ↔ a = .accept ∧ b = .accept)) ∧
  ∀ (x : Window) (v : TenureVote) (sender : StationId) (f : WireFrame),
    ((queuedFrameOf x v sender f).window = v.window ∧ (queuedFrameOf x v sender f).sender = sender ∧
      (queuedFrameOf x v sender f).payload = f.payload ∧ (queuedFrameOf x v sender f).last = f.last ∧
      (queuedFrameOf x v sender f).tenure = v.tenure ∧ (queuedFrameOf x v sender f).released = false ∧
      (f.offset = none → (queuedFrameOf x v sender f).target = x.accepted) ∧
      (∀ o, f.offset = some o → (queuedFrameOf x v sender f).target.toNat = o.toNat) ∧
      (x.kind = .ring → (queuedFrameOf x v sender f).ringPos = x.ringPos)) ∧
    (x.kind = .table → ∀ n, x.acceptBytes n = x) ∧
    (x.kind = .once → ∀ n, x.acceptBytes n = { x with accepted := x.accepted + BitVec.ofNat 32 n }) ∧
    (x.kind = .ring → ∀ n,
      x.acceptBytes n = { x with accepted := x.accepted + BitVec.ofNat 32 n, ringPos := (x.ringPos + n) % x.size })

/-- R12, R17, R125, Figures 1-5 and 7-5: at the verdict mark a destination notes a failure for every frame that has not
arrived, and the station raises the line of the first row that holds, or none. That a verdict mark without a header
leaves the station a bystander that raises no line is the model's choice (log 22). -/
def Obligations.VerdictMarkRaisesTheLine : Prop :=
  (∀ s : State, (s.bus.verdict = .closed → s.lineRaised = none) ∧
    ∀ line, s.bus.verdict = .opened line → s.lineRaised = line) ∧
  ∀ s : State, s.Hears → s.bus.phase = .tenure → s.bus.verdict = .closed →
    ∃ (missing : Nat) (line : Option Vote),
      (∀ h, s.bus.header = .good h → s.bus.destination = true → missing = h.frameCount - s.bus.framesReceived) ∧
      ((s.bus.header = .awaited ∨ s.bus.header = .unreadable ∨ s.bus.destination = false) → missing = 0) ∧
      (s.membership.link = .out → line = none) ∧
      (s.membership.link ≠ .out → s.bus.echoFailed = true → line = some .retry) ∧
      (s.membership.link ≠ .out → s.bus.echoFailed = false → s.bus.header = .unreadable → line = some .retry) ∧
      (s.membership.link ≠ .out → s.bus.echoFailed = false → s.bus.header ≠ .unreadable → s.bus.destination = false →
        line = none) ∧
      (s.membership.link ≠ .out → s.bus.echoFailed = false → s.bus.header ≠ .unreadable → s.bus.destination = true →
        ∀ v, s.landing.vote = some v →
          (v.running = .refuse ∨
              (1 ≤ v.accepted ∧ ((s.win v.window).state = .closing ∨ (s.win v.window).state = .faulted)) →
            line = some .refuse) ∧
          (¬ (v.running = .refuse ∨
              (1 ≤ v.accepted ∧ ((s.win v.window).state = .closing ∨ (s.win v.window).state = .faulted))) →
            (v.running = .retry ∨ 0 < s.bus.frameFailures + missing → line = some .retry) ∧
            (¬ (v.running = .retry ∨ 0 < s.bus.frameFailures + missing) → line = some .accept))) ∧
      exec .verdictMark s = .next
        { s with membership := s.membership.activity
                 bus := { s.bus with frameFailures := s.bus.frameFailures + missing, verdict := .opened line } }

/-- R18, R19, Figure 1-6: the outcome of the three wired-OR lines (this station's own line among them, log 12), and the
ABORTED outcome of a truncation; either is the tenure end. -/
def Obligations.TenureOutcomes : Prop :=
  (∀ (s : State) (lines : Lines) (raised : Option Vote), s.Hears → s.bus.phase = .tenure →
    s.bus.verdict = .opened raised →
    ((lines.refuse = true ∨ raised = some .refuse) → exec (.verdictSample lines) s = .next (s.tenureEnd .refuse)) ∧
    (¬ (lines.refuse = true ∨ raised = some .refuse) → (lines.retry = true ∨ raised = some .retry) →
      exec (.verdictSample lines) s = .next (s.tenureEnd .retry)) ∧
    (¬ (lines.refuse = true ∨ raised = some .refuse) → ¬ (lines.retry = true ∨ raised = some .retry) →
      (lines.accept = true ∨ raised = some .accept) → exec (.verdictSample lines) s = .next (s.tenureEnd .commit)) ∧
    (lines.refuse = false → lines.retry = false → lines.accept = false → raised = none →
      exec (.verdictSample lines) s = .next (s.tenureEnd .unclaimed))) ∧
  ∀ s : State, s.Hears → s.bus.phase = .tenure → s.bus.verdict = .closed →
    exec .truncation s = .next (s.tenureEnd .aborted)

/-- R20, R29, R32, R39, R98: the tenure end. The order list rotates, the tenure counter advances, the channel of this
station's own tenure and the landing unit take the outcome, and the tenure's records are cleared. Where both of them act
the order is free (log 16). -/
def Obligations.TenureEndEffects : Prop :=
  ∀ (s : State) (o : TenureOutcome),
    let counted : State :=
      { s with
        order := { s.order with list := rotated s.membership.mode s.order.list s.bus.header s.contestRank }
        membership := { s.membership with tenureCounter := min 65535 (s.membership.tenureCounter + 1) } }
    let t := s.tenureEnd o
    t.bus = { s.bus with phase := .silent, header := .awaited, destination := false, framesReceived := 0,
                         frameFailures := 0, echoFailed := false, verdict := .closed, drive := .nothing } ∧
    t.order = counted.order ∧ t.membership = counted.membership ∧
    t.straps = s.straps ∧ t.pace = s.pace ∧ t.lastSent = s.lastSent ∧ t.cmd = s.cmd ∧
    ((∀ c, s.bus.drive ≠ .tenure c) → t = { counted.landingOutcome o with bus := t.bus }) ∧
    (∀ c, s.bus.drive = .tenure c → s.landing.vote = none →
      t = { (counted.channelOutcome c o).landingOutcome o with bus := t.bus }) ∧
    ∀ c, s.bus.drive = .tenure c → s.landing.vote.isSome = true →
      let drawn : State := { counted with choices := s.choices + 1 }
      t = { (drawn.channelOutcome c o).landingOutcome o with bus := t.bus } ∨
        t = { (drawn.landingOutcome o).channelOutcome c o with bus := t.bus }

/-- R29, R32, Figure 2-2: which entry a tenure end moves. In FIXED mode none. In ROTATE mode the sender's, where the
header was good and the list holds it; otherwise the one at the contest rank, if there is one. -/
def Obligations.RotationChoice : Prop :=
  (∀ (list : List Entry) (h : HeaderView) (rank : Option Nat), rotated .fixed list h rank = list) ∧
  (∀ (list : List Entry) (hd : Header) (rank : Option Nat) (i : Nat) (e : Entry),
    list[i]? = some e → e.id = hd.sender → (∀ j < i, ∀ d, list[j]? = some d → d.id ≠ hd.sender) →
    rotated .rotate list (.good hd) rank = moveToBottom list i) ∧
  (∀ (list : List Entry) (h : HeaderView) (r : Nat),
    (∀ hd, h = .good hd → ∀ e ∈ list, e.id ≠ hd.sender) →
    (r < list.length → rotated .rotate list h (some r) = moveToBottom list r) ∧
    (list.length ≤ r → rotated .rotate list h (some r) = list) ∧ rotated .rotate list h none = list)

/-- R30: the chosen entry moves to the bottom and keeps its ID and miss count; those below it move up by one, those
above it stay; the member count does not change. The own rank follows: the mover's becomes the count less one, one that
stood below falls by one, any other stays. No record is produced: a rotation is a change of the order list alone. -/
def Obligations.ChosenEntryMovesToTheBottom : Prop :=
  (∀ (above below : List Entry) (e : Entry),
    moveToBottom (above ++ e :: below) above.length = above ++ below ++ [e] ∧
      (moveToBottom (above ++ e :: below) above.length).length = (above ++ e :: below).length) ∧
  (∀ (s : State) (above below : List Entry) (e : Entry), s.order.list = above ++ e :: below →
    (s.order.list.map fun d => d.id).Nodup →
    let t : State := { s with order := { s.order with list := moveToBottom s.order.list above.length } }
    (e.id = s.straps.id → t.ownRank = some (s.memberCount - 1)) ∧
    (∀ r, s.ownRank = some r → above.length < r → t.ownRank = some (r - 1)) ∧
    (∀ r, s.ownRank = some r → r < above.length → t.ownRank = some r) ∧ (s.ownRank = none → t.ownRank = none) ∧
    t.memberCount = s.memberCount) ∧
  ∀ s : State, s.rotate = { s with order := { s.order with list := s.rotate.order.list } }

/-- R98 to R106, R110, R111, Figures 6-2 and 6-4: what the ON_BUS channel does with its tenure's outcome. A COMMIT moves
the held bytes to the committed bytes; a RETRY or ABORTED counts one retry and keeps the tenure, up to sixteen; a
REFUSE, an UNCLAIMED and the end of a pending stop end the segment. A channel that is not ON_BUS takes nothing. -/
def Obligations.OutcomeAtTheSender : Prop :=
  (∀ (s : State) (c : ChannelNo) (seg : Segment), (s.chan c).state = .onBus → (s.chan c).current = some seg →
    let sent : Segment := { seg with committed := seg.committed + seg.held, held := 0, retry := 0 }
    (seg.unread = 0 → s.channelOutcome c .commit = s.endSegment c sent .done) ∧
    (seg.unread ≠ 0 → seg.stopPending = true → s.channelOutcome c .commit = s.endSegment c sent .stopped) ∧
    (seg.unread ≠ 0 → seg.stopPending = false →
      s.channelOutcome c .commit =
        ({ s with
           channels :=
             s.channels.set c { s.chan c with state := .assembling, current := some sent, buffer := [] } } : State).readPoint
          c) ∧
    (∀ o, o = .retry ∨ o = .aborted →
      (16 ≤ seg.retry + 1 →
        s.channelOutcome c o = s.endSegment c { seg with retry := seg.retry + 1 } .retryExhausted) ∧
      (seg.retry + 1 < 16 → seg.stopPending = true →
        s.channelOutcome c o = s.endSegment c { seg with retry := seg.retry + 1 } .stopped) ∧
      (seg.retry + 1 < 16 → seg.stopPending = false →
        s.channelOutcome c o =
          { s with
            channels :=
              s.channels.set c
                { s.chan c with state := .ready, current := some { seg with retry := seg.retry + 1 } } })) ∧
    s.channelOutcome c .refuse = s.endSegment c seg .refused ∧
    s.channelOutcome c .unclaimed = s.endSegment c seg .noReceiver) ∧
  ∀ (s : State) (c : ChannelNo) (o : TenureOutcome), (s.chan c).state ≠ .onBus → s.channelOutcome c o = s

/-- R119, R138, R139, R145, R147: what the landing unit does with a tenure's outcome. A COMMIT releases the tentative
frames in place, sets C of a STREAM window to A, counts the frames released and lets the writer act. Any other outcome
removes them, sets A back to C and the ring position back with it, and makes the drain test. A tenure without a vote
changes nothing, a COMMIT (where the writer is at work exactly when the head is released) no more than another
outcome. -/
def Obligations.OutcomeAtTheLandingUnit : Prop :=
  (∀ (s : State) (v : TenureVote), s.landing.vote = some v →
    let n := (s.landing.queue.filter fun f => !f.released).length
    let x := s.win v.window
    s.landingOutcome .commit =
      ({ s with
        landing :=
          { s.landing with
            windows :=
              s.landing.windows.set v.window
                { x with
                  commitMark := if x.kind = .table then x.commitMark else x.accepted
                  committedFrames := min 65535 (x.committedFrames + n)
                  lastSender := if n = 0 then x.lastSender else some v.sender }
            queue := s.landing.queue.map fun f => { f with released := true }
            vote := none } } : State).writerAct) ∧
  (∀ (s : State) (v : TenureVote) (o : TenureOutcome), s.landing.vote = some v → o ≠ .commit →
    s.landingOutcome o =
      ((({ s with
        landing :=
          { s.landing with
            windows := s.landing.windows.set v.window (s.win v.window).setBack
            queue := s.landing.queue.filter fun f => f.released
            vote := none } } : State).drainTest v.window).offer (.window v.window))) ∧
  (∀ x : Window,
    (x.kind = .table → x.setBack = x) ∧
    (x.kind = .once → x.setBack = { x with accepted := x.commitMark }) ∧
    (x.kind = .ring → x.ringPos < x.size → (x.accepted - x.commitMark).toNat ≤ x.ringPos →
      x.setBack = { x with accepted := x.commitMark, ringPos := x.ringPos - (x.accepted - x.commitMark).toNat }) ∧
    (x.kind = .ring → x.ringPos < x.size → x.ringPos < (x.accepted - x.commitMark).toNat →
      (x.accepted - x.commitMark).toNat ≤ x.size →
      x.setBack =
        { x with accepted := x.commitMark, ringPos := x.ringPos + x.size - (x.accepted - x.commitMark).toNat })) ∧
  ∀ s : State, s.landing.vote = none → (∀ f ∈ s.landing.queue, f.released = true) →
    (s.WriterSound → s.landingOutcome .commit = s) ∧ ∀ o, o ≠ .commit → s.landingOutcome o = s

/-- R14, R15, R57, R102, R106, R111: an echo mismatch in this station's own tenure. In the sender ID field the station
withdraws: it drives nothing, its channel is READY again without a retry, and it becomes LISTENING (or OUT from LEAVING)
with the reason COLLIDED. With a stop pending the channel ends STOPPED instead (R111), before or after the membership
unit acts: the order is free (the model's free value, log 16). Later in the tenure the station stops driving, notes the
failure, is no destination, and its channel takes ABORTED at once; that the vote and tentative frames of an own
destination stay until the tenure end is the model's (log 26). -/
def Obligations.EchoMismatchInTenure : Prop :=
  (∀ (s : State) (c : ChannelNo) (seg : Segment), s.bus.phase = .tenure → s.bus.drive = .tenure c →
    s.bus.header = .awaited → s.bus.verdict = .closed → (s.chan c).state = .onBus → (s.chan c).current = some seg →
    seg.stopPending = false → (s.membership.link = .member ∨ s.membership.link = .leaving) →
      exec .echoWithdrawal s = .next
        (({ s with
          bus := { s.bus with drive := .nothing }
          channels := s.channels.set c { s.chan c with state := .ready }
          membership :=
            if s.membership.link = .leaving then
              { s.membership with link := .out, lastReason := .collided, idleTimer := .stopped,
                                  formationTimer := .stopped, idleWant := false, formationWant := false }
            else
              { s.membership with link := .listening, lastReason := .collided, idleTimer := .stopped,
                                  formationTimer := .running, idleWant := false, formationWant := false } } : State).note
          (.change .collided))) ∧
  (∀ (s : State) (c : ChannelNo) (seg : Segment), s.bus.phase = .tenure → s.bus.drive = .tenure c →
    s.bus.header = .awaited → s.bus.verdict = .closed → (s.chan c).state = .onBus → (s.chan c).current = some seg →
    seg.stopPending = true →
      let quiet : State := { s with bus := { s.bus with drive := .nothing }, choices := s.choices + 1 }
      exec .echoWithdrawal s = .next ((quiet.endSegment c seg .stopped).tenureCollision) ∨
        exec .echoWithdrawal s = .next (quiet.tenureCollision.endSegment c seg .stopped)) ∧
  ∀ (s : State) (c : ChannelNo), s.bus.phase = .tenure → s.bus.drive = .tenure c → s.bus.verdict = .closed →
    exec .echoMismatchTenure s = .next
      (({ s with bus := { s.bus with drive := .nothing, echoFailed := true, destination := false } } : State).channelOutcome
        c .aborted)

/-! ## Censuses and the membership timers -/

/-- R21, R23, R45: the arrival of a census header. It is good when its check is good and its slot count is at most 16. A
good one opens a census record and makes a LISTENING station JOINING; a bad one opens none. The claimant goes on to its
first slot mark after either (the model's choice for a bad one, log 22). -/
def Obligations.CensusHeaderArrival : Prop :=
  (∀ (w : WireCensusHeader) (h : CensusHeader),
    goodCensusHeader w = some h ↔
      check16 (wireCensusHeaderBits w) = w.check ∧ w.slots.val ≤ 16 ∧
        h = { claimant := w.claimant, slots := w.slots.val, mode := w.mode, interval := w.interval }) ∧
  ∀ (s : State) (w : WireCensusHeader), s.Hears → s.bus.phase = .census → s.bus.censusHeader = .awaited →
    s.bus.slotMarks = 0 →
    (goodCensusHeader w = none →
      exec (.censusHeader w) s = .next
        { s with membership := s.membership.activity
                 bus := { s.bus with censusHeader := .bad, drive := afterHeader s.bus.drive } }) ∧
    ∀ h, goodCensusHeader w = some h →
      let opened : Membership :=
        { s.membership.activity with
          census := some
            { header := h, reference := none, answers := List.replicate h.slots none, joiners := [], diverged := false,
              collided := false } }
      exec (.censusHeader w) s = .next
        { s with
          bus := { s.bus with censusHeader := .good, drive := afterHeader s.bus.drive }
          membership :=
            if s.membership.link = .listening then
              { opened with link := .joining, idleTimer := .stopped, formationTimer := .stopped, idleWant := false,
                            formationWant := false }
            else opened }

/-- R21: the parts a claimant drives. After its header comes slot mark 0; after a slot mark its slot time; after the
slot time of mark k the next mark, or after the last of the N + 16 slots the end mark. A listener, which drives nothing,
goes on driving nothing. That a slot time changes nothing at a listener, and that a header or slot mark leaves a
claimant at another part where it is, are the model's choice (log 22). -/
def Obligations.ClaimantDrivesTheCensus : Prop :=
  (∀ h, afterHeader (.census h .header) = .census h (.slotMark 0)) ∧
  (∀ h k, afterSlotMark (.census h (.slotMark k)) = .census h (.slotTime k)) ∧
  (afterHeader .nothing = .nothing ∧ afterSlotMark .nothing = .nothing) ∧
  (∀ drive, (∀ h, drive ≠ .census h .header) → afterHeader drive = drive) ∧
  (∀ drive, (∀ h k, drive ≠ .census h (.slotMark k)) → afterSlotMark drive = drive) ∧
  (∀ (s : State) (h : CensusHeader) (k : Nat), s.Hears → s.bus.phase = .census →
    s.bus.drive = .census h (.slotTime k) →
    (k + 1 < h.slots + 16 →
      exec .censusSlotTime s = .next
        { s with bus := { s.bus with drive := .census h (.slotMark (k + 1)), answer := none } }) ∧
    (h.slots + 16 ≤ k + 1 →
      exec .censusSlotTime s = .next { s with bus := { s.bus with drive := .census h .endMark, answer := none } })) ∧
  ∀ s : State, s.Hears → s.bus.phase = .census → s.bus.drive = .nothing → exec .censusSlotTime s = .next s

/-- R8, R21, R23, R33, R46, R49, Figures 3-8 and 10-17: a slot mark. It is counted and the slot stands open; in list
slot i a MEMBER or LEAVING station of rank i answers with its list, in join slot j a JOINING station with ID j; a
station without a census record answers nothing. The answer sent carries the station ID, and in a list slot the leave
flag and every entry of the list in rank order with its miss count, and a good check. (At the first join slot the end of
the list slots comes first: see `EndOfTheListSlots`.) -/
def Obligations.SlotMarkOpensTheSlot : Prop :=
  (∀ (s : State) (id : StationId) (leave : Bool) (copy : List Entry), s.bus.answer = some (.list id leave copy) →
    s.joinAnswerSent = none ∧
      ∃ a : WireListAnswer, s.listAnswerSent = some a ∧ a.id = id ∧ a.leave = leave ∧
        a.entries.map (fun e => (e.id, e.miss.val)) = copy.map (fun e => (e.id, e.miss.val)) ∧
        a.check = check16 (wireListAnswerBits a)) ∧
  (∀ (s : State) (id : StationId), s.bus.answer = some (.join id) →
    s.listAnswerSent = none ∧
      ∃ a : WireJoinAnswer, s.joinAnswerSent = some a ∧ a.id = id ∧ a.check = check16 (bitsOf 4 id.val)) ∧
  (∀ s : State, s.bus.answer = none → s.listAnswerSent = none ∧ s.joinAnswerSent = none) ∧
  ∀ s : State, s.Hears → s.bus.phase = .census →
    let bus (answer : Option Answer) : BusController :=
      { s.bus with slotMarks := s.bus.slotMarks + 1, slotAnswered := false, answer := answer,
                   drive := afterSlotMark s.bus.drive }
    (s.membership.census = none →
      exec .slotMark s = .next { s with membership := s.membership.activity, bus := bus none }) ∧
    ∀ r, s.membership.census = some r →
      (s.bus.slotMarks < r.header.slots →
        exec .slotMark s = .next
          { s with
            membership := s.membership.activity
            bus := bus
              (if (s.membership.link = .member ∨ s.membership.link = .leaving) ∧ s.ownRank = some s.bus.slotMarks then
                some (.list s.straps.id (s.membership.link == .leaving) s.order.list)
              else none) }) ∧
      (r.header.slots < s.bus.slotMarks →
        exec .slotMark s = .next
          { s with
            membership := s.membership.activity
            bus := bus
              (if s.membership.link = .joining ∧ s.straps.id.val = s.bus.slotMarks - r.header.slots then
                some (.join s.straps.id)
              else none) })

/-- R47, R48, R49: the mark of the first join slot ends the list slots. A reference not heard is the empty list. A
JOINING station takes the reference as its list. A MEMBER or LEAVING station whose list is the reference goes on; a
MEMBER whose list differs becomes JOINING with the reason DIVERGED and takes the reference, and a LEAVING one OUT with
the reason LEFT. Then the first join slot is answered by a JOINING station with ID 0. (That a DIVERGED record granted at
once shows the list before it is replaced is the model's, log 20.) -/
def Obligations.EndOfTheListSlots : Prop :=
  ∀ (s : State) (r : CensusRecord), s.Hears → s.bus.phase = .census → s.membership.census = some r →
    s.bus.slotMarks = r.header.slots →
    let reference := r.reference.getD []
    let bus (answer : Option Answer) : BusController :=
      { s.bus with slotMarks := s.bus.slotMarks + 1, slotAnswered := false, answer := answer,
                   drive := afterSlotMark s.bus.drive }
    let compared : Membership := { s.membership.activity with census := some { r with reference := some reference } }
    let join : Option Answer := if s.straps.id.val = 0 then some (.join s.straps.id) else none
    ((s.membership.link = .listening ∨ s.membership.link = .out ∨
        ((s.membership.link = .member ∨ s.membership.link = .leaving) ∧ s.order.list = reference)) →
      exec .slotMark s = .next { s with membership := compared, bus := bus none }) ∧
    (s.membership.link = .joining →
      exec .slotMark s = .next
        { s with membership := compared, order := { s.order with list := reference }, bus := bus join }) ∧
    (s.membership.link = .member → s.order.list ≠ reference →
      ∃ t, exec .slotMark s = .next t ∧
        t = { ({ s with
                membership :=
                  { compared with
                    census := some { r with reference := some reference, diverged := true }
                    link := .joining
                    lastReason := .diverged
                    idleTimer := .stopped
                    formationTimer := .stopped
                    idleWant := false
                    formationWant := false } } : State).note (.change .diverged) with
              order := { s.order with list := reference }, bus := bus join }) ∧
    (s.membership.link = .leaving → s.order.list ≠ reference →
      exec .slotMark s = .next
        { ({ s with
            membership :=
              { compared with link := .out, lastReason := .left, idleTimer := .stopped, formationTimer := .stopped,
                              idleWant := false, formationWant := false } } : State).note (.change .left) with
          bus := bus none })

/-- R21, R23, R47, R49: an answer in an open slot. A station without a census record records nothing. A list slot answer
whose check is good and whose copy is well formed is heard: its ID and leave flag go to its slot, and its list is the
reference if none was heard before. A join slot answer is heard when its check is good and it carries the slot's own ID.
Anything else leaves the record as it was. -/
def Obligations.SlotAnswersHeard : Prop :=
  (∀ (s : State), s.Hears → s.bus.phase = .census → 0 < s.bus.slotMarks → s.bus.slotAnswered = false →
    let bus : BusController := { s.bus with slotAnswered := true, answer := none }
    (s.membership.census = none →
      (∀ a, a.wellFormed = true →
        exec (.listSlotAnswer a) s = .next { s with membership := s.membership.activity, bus := bus }) ∧
      ∀ a, exec (.joinSlotAnswer a) s = .next { s with membership := s.membership.activity, bus := bus }) ∧
    ∀ r, s.membership.census = some r →
      (∀ a, a.wellFormed = true → s.bus.slotMarks ≤ r.header.slots →
        (heardList a = none →
          exec (.listSlotAnswer a) s = .next { s with membership := s.membership.activity, bus := bus }) ∧
        ∀ list, heardList a = some list →
          exec (.listSlotAnswer a) s = .next
            { s with
              bus := bus
              membership :=
                { s.membership.activity with
                  census := some
                    { r with
                      answers := r.answers.set (s.bus.slotMarks - 1) (some { id := a.id, leave := a.leave })
                      reference := some (r.reference.getD list) } } }) ∧
      (∀ a : WireJoinAnswer, r.header.slots < s.bus.slotMarks →
        (check16 (bitsOf 4 a.id.val) = a.check → a.id.val = s.bus.slotMarks - 1 - r.header.slots →
          ∃ joiners : List StationId, (∀ id, id ∈ joiners ↔ id ∈ r.joiners ∨ id = a.id) ∧
            exec (.joinSlotAnswer a) s = .next
              { s with
                bus := bus
                membership := { s.membership.activity with census := some { r with joiners := joiners } } }) ∧
        (¬ (check16 (bitsOf 4 a.id.val) = a.check ∧ a.id.val = s.bus.slotMarks - 1 - r.header.slots) →
          exec (.joinSlotAnswer a) s = .next { s with membership := s.membership.activity, bus := bus }))) ∧
  ∀ (a : WireListAnswer) (list : List Entry),
    heardList a = some list ↔
      check16 (wireListAnswerBits a) = a.check ∧ WellFormedList list ∧
        a.entries.map (fun e => (e.id, e.miss.val)) = list.map (fun e => (e.id, e.miss.val))

/-- R24, R32, R50: the new list of a census, step by step. The entries of the reference list that stay keep their order;
an entry whose own list slot was answered with its own ID and no leave flag stays with miss count 0; any other entry
stays with one miss more unless that makes three; entries that answered with the leave flag, and the old entries of join
answerers, go. In ROTATE mode the join answerers follow in ascending order with miss count 0; in FIXED mode the whole
list is in ascending order. -/
def Obligations.NewListOfACensus : Prop :=
  (∀ (answers : List (Option HeardAnswer)) (i : Nat) (e : Entry),
    (answers[i]? = some (some { id := e.id, leave := true }) → survives answers i e = none) ∧
    (answers[i]? = some (some { id := e.id, leave := false }) → survives answers i e = some { e with miss := 0 }) ∧
    ((∀ leave, answers[i]? ≠ some (some { id := e.id, leave := leave })) →
      (e.miss = 0 → survives answers i e = some { e with miss := 1 }) ∧
      (e.miss = 1 → survives answers i e = some { e with miss := 2 }) ∧
      (e.miss = 2 → survives answers i e = none))) ∧
  (∀ (r : CensusRecord),
    let kept := ((r.reference.getD []).zipIdx.filterMap fun e => survives r.answers e.2 e.1).filter fun e =>
      !(r.joiners.contains e.id)
    let joined := (allSixteen.filter fun id => r.joiners.contains id).map fun id => ({ id := id, miss := 0 } : Entry)
    (r.header.mode = .rotate → newList r = kept ++ joined) ∧
    (r.header.mode = .fixed → (∀ e, e ∈ newList r → e ∈ kept ++ joined) ∧
      ((newList r).map fun e => e.id.val).Pairwise (· < ·) ∧
      ∀ e, e ∈ kept ++ joined → WellFormedList (r.reference.getD []) → e ∈ newList r)) ∧
  ∀ r : CensusRecord, (∀ reference, r.reference = some reference → WellFormedList reference) → WellFormedList (newList r)

/-- R21, R23, R28, R36, R40, R41, R50 to R54, Figure 3-9: the end mark. A station that opened no census record has lost
the census and changes nothing. Any other installs the new list, clears the disagreement flag, the tenure counter and
the idle want and adopts the header's parameters; then its link state, reason and timers follow Figure 3-9, with its
note. A JOINING station in the new list becomes MEMBER and its idle timer runs; one that is not goes back to LISTENING,
as a struck MEMBER does with the reason STRUCK, and the formation timer runs; a LEAVING station that has left becomes
OUT. (That a station which received no header changes nothing, and that a record short of slots or without a reference
is taken as it stands, are the model's choice, log 22; that a record is kept after a collision, log 19.) -/
def Obligations.CensusEnd : Prop :=
  ∀ s : State, s.Hears → s.bus.phase = .census →
    let bus : BusController :=
      { s.bus with phase := .silent, drive := .nothing, answer := none, censusHeader := .awaited, slotMarks := 0,
                   slotAnswered := false }
    (s.membership.census = none →
      exec .endMark s = .next { s with membership := s.membership.activity, bus := bus }) ∧
    ∀ r, s.membership.census = some r →
      let adopted : Membership :=
        { s.membership.activity with mode := r.header.mode, interval := r.header.interval, tenureCounter := 0,
                                     idleWant := false, census := none }
      let installed (m : Membership) : State := { s with order := { list := newList r, disagree := false }, membership := m }
      let within := ∃ e ∈ newList r, e.id = s.straps.id
      let left (i : Nat) := r.answers[i]? = some (some { id := s.straps.id, leave := true })
      (s.membership.link = .joining → within →
        ∃ reason : Reason,
          (r.header.slots = 0 → reason = .formed) ∧ (r.header.slots ≠ 0 → reason = .joined) ∧
          exec .endMark s = .next
            { (installed
                { adopted with link := .member, lastReason := reason, idleTimer := .running, formationTimer := .stopped,
                               formationWant := false }).note (.change reason) with bus := bus }) ∧
      (s.membership.link = .joining → ¬ within →
        exec .endMark s = .next
          { installed { adopted with link := .listening, idleTimer := .stopped, formationTimer := .running,
                                     formationWant := false } with bus := bus }) ∧
      (s.membership.link = .member → within → (newList r).length = s.order.list.length →
        exec .endMark s = .next { installed adopted with bus := bus }) ∧
      (s.membership.link = .member → within → (newList r).length ≠ s.order.list.length →
        exec .endMark s = .next { (installed adopted).note .listChanged with bus := bus }) ∧
      (s.membership.link = .member → ¬ within →
        exec .endMark s = .next
          { (installed
              { adopted with link := .listening, lastReason := .struck, idleTimer := .stopped, formationTimer := .running,
                             formationWant := false }).note (.change .struck) with bus := bus }) ∧
      (s.membership.link = .leaving → (¬ within ∨ ∃ i : Nat, s.ownRank = some i ∧ left i) →
        exec .endMark s = .next
          { (installed
              { adopted with link := .out, lastReason := .left, idleTimer := .stopped, formationTimer := .stopped,
                             formationWant := false }).note (.change .left) with bus := bus }) ∧
      (s.membership.link = .leaving → within → (∀ i : Nat, s.ownRank = some i → ¬ left i) →
        exec .endMark s = .next { installed adopted with bus := bus }) ∧
      ((s.membership.link = .listening ∨ s.membership.link = .out) →
        exec .endMark s = .next { installed adopted with bus := bus })

/-- R1, R22, R55: the truncation silence in a contest ends it without a winner; in a census it abandons the census,
which closes the census record and takes a JOINING station back to LISTENING without reason or note. -/
def Obligations.SilenceEndsContestOrCensus : Prop :=
  ∀ s : State, s.Hears →
    (s.bus.phase = .contest →
      exec .contestSilence s = .next { s with bus := { s.bus with phase := .silent, drive := .nothing } }) ∧
    (s.bus.phase = .census →
      exec .censusAbandonSilence s = .next
        { s with
          bus := { s.bus with phase := .silent, drive := .nothing, answer := none, censusHeader := .awaited,
                              slotMarks := 0, slotAnswered := false }
          membership :=
            if s.membership.link = .joining then
              { s.membership with census := none, link := .listening, idleTimer := .stopped,
                                  formationTimer := .running, idleWant := false, formationWant := false }
            else { s.membership with census := none } })

/-- R16, R56: an echo mismatch in a census part this station drives. In an answer the answer is not sent. In the header,
a slot mark or the end mark of its own census the station stops driving and collides: it becomes LISTENING, or OUT from
LEAVING, with the reason COLLIDED and a note. (That the record is kept for the census end is log 19.) -/
def Obligations.EchoMismatchInCensus : Prop :=
  (∀ (s : State) (a : Answer), s.bus.phase = .census → s.bus.answer = some a →
    exec .echoMismatchCensus s = .next { s with bus := { s.bus with answer := none } }) ∧
  ∀ (s : State) (h : CensusHeader) (part : CensusPart), s.bus.phase = .census → s.bus.answer = none →
    s.bus.drive = .census h part → (part = .header ∨ part = .endMark ∨ ∃ k, part = .slotMark k) →
    ∃ record : Option CensusRecord,
      (record.isSome = s.membership.census.isSome) ∧
      (∀ r q, s.membership.census = some r → record = some q → q = { r with collided := true }) ∧
      (s.membership.link = .leaving →
        exec .echoMismatchCensus s = .next
          (({ s with
            bus := { s.bus with drive := .nothing }
            membership :=
              { s.membership with census := record, link := .out, lastReason := .collided, idleTimer := .stopped,
                                  formationTimer := .stopped, idleWant := false, formationWant := false } } :
              State).note (.change .collided))) ∧
      (s.membership.link = .member ∨ s.membership.link = .listening ∨ s.membership.link = .joining →
        exec .echoMismatchCensus s = .next
          (({ s with
            bus := { s.bus with drive := .nothing }
            membership :=
              { s.membership with census := record, link := .listening, lastReason := .collided, idleTimer := .stopped,
                                  formationTimer := .running, idleWant := false, formationWant := false } } :
              State).note (.change .collided))) ∧
      (s.membership.link = .out →
        exec .echoMismatchCensus s = .next
          { s with bus := { s.bus with drive := .nothing }, membership := { s.membership with census := record } })

/-- R23, R40, R41, R43: the two membership timers. An expiry latches the want of its timer and leaves it stopped (R40
says so of the idle timer; of the formation timer it is the model's, log 11); an activity report restarts the idle timer
of a MEMBER or LEAVING station and the formation timer of a LISTENING one, and no other. -/
def Obligations.MembershipTimers : Prop :=
  (∀ s : State, s.membership.idleTimer = .running →
    exec .idleTimerExpiry s = .next { s with membership := { s.membership with idleTimer := .stopped, idleWant := true } }) ∧
  (∀ s : State, s.membership.formationTimer = .running →
    exec .formationTimerExpiry s = .next
      { s with membership := { s.membership with formationTimer := .stopped, formationWant := true } }) ∧
  ∀ m : Membership,
    (m.link = .member ∨ m.link = .leaving → m.activity = { m with idleTimer := .running }) ∧
    (m.link = .listening → m.activity = { m with formationTimer := .running }) ∧
    (m.link = .joining ∨ m.link = .out ∨ m.link = .down → m.activity = m)

/-! ## Resets -/

/-- R2, R34, R37, R82, R96, R97, R115, R134, R148, R155, R164, R171, Figure 3-4: while RESET is asserted the station is
DOWN and every block is cleared, the access in flight being abandoned; at the release the straps are sampled, the
adopted parameters take the strapped values, and the station comes up LISTENING or OUT with the reason RESET and no
record. That the last reason, the adopted parameters and the sampled straps keep their values while RESET is asserted is
the model's (log 25). -/
def Obligations.PinReset : Prop :=
  (∀ s : State,
    exec .resetAsserted s = .next
      { State.reset with
        straps := s.straps
        pace := s.pace
        membership :=
          { Membership.reset with lastReason := s.membership.lastReason, mode := s.membership.mode,
                                  interval := s.membership.interval }
        choices := s.choices
        pending := s.pending }) ∧
  ∀ (s : State) (p : StrapPins), s.membership.link = .down →
    exec (.resetReleased p) s = .next
      { s with
        straps := sampleStraps p
        membership :=
          { s.membership with
            link := if p.autoJ then .listening else .out
            lastReason := .reset
            mode := if p.mode then .fixed else .rotate
            interval := strappedInterval p.cint1 p.cint0
            idleTimer := .stopped
            formationTimer := if p.autoJ then .running else .stopped
            idleWant := false
            formationWant := false } } ∧
    ((sampleStraps p).mode = if p.mode then .fixed else .rotate) ∧
    (sampleStraps p).interval = strappedInterval p.cint1 p.cint0 ∧ (sampleStraps p).autoJoin = p.autoJ ∧
    strappedInterval false false = .t64 ∧ strappedInterval false true = .t256 ∧
    strappedInterval true false = .t1024 ∧ strappedInterval true true = .t4096 ∧
    (sampleStraps p).id.val =
      (if p.sid3 then 8 else 0) + (if p.sid2 then 4 else 0) + (if p.sid1 then 2 else 0) + (if p.sid0 then 1 else 0)

/-- R62, R83, R96, R135, R149, R156, R164, R167, R171: STATION_RESET. Every block returns to its state after a pin
reset, the straps are sampled again, an access in flight becomes an orphan, and the RESET note is the one record of the
fresh log; the result is OK and the command code word reads 0. -/
def Obligations.StationReset : Prop :=
  ∀ (s : State) (p : StrapPins), s.membership.link ≠ .down →
    exec (.stationReset p) s = .next
      { State.reset with
        straps := sampleStraps p
        pace := s.pace
        membership :=
          { Membership.reset with
            link := if p.autoJ then .listening else .out
            lastReason := .reset
            mode := (sampleStraps p).mode
            interval := (sampleStraps p).interval
            formationTimer := if p.autoJ then .running else .stopped }
        port := { MemPort.reset with inFlight := s.port.inFlight, orphan := s.port.inFlight.isSome }
        log :=
          { records :=
              [.membership
                { link := if p.autoJ then .listening else .out, reason := .change .reset, memberCount := 0, rank := none,
                  mode := (sampleStraps p).mode, interval := (sampleStraps p).interval }]
            pointer := .membership }
        choices := s.choices
        pending := s.pending }

/-! ## PACE and the local memory port -/

/-- R88, R89, R90: a change of a PACE input. A channel that waits for PACE with no frame held makes its read request
when its input becomes active; no other channel looks at it at that event. -/
def Obligations.PaceInput : Prop :=
  ∀ (s : State) (c : ChannelNo) (level : Bool),
    let paced : State := { s with pace := s.pace.set c level }
    (∀ seg, level = true → (s.chan c).state = .assembling → (s.chan c).readOutstanding = false →
      (s.chan c).current = some seg → seg.record.pacing = .paced →
      exec (.paceActive c level) s = .next
        { paced with
          channels := s.channels.set c { s.chan c with readOutstanding := true }
          port := s.port.requestRead c { addr := seg.pointer, count := min 64 seg.unread } }) ∧
    (¬ (level = true ∧ (s.chan c).state = .assembling ∧ (s.chan c).readOutstanding = false ∧
        ∃ seg, (s.chan c).current = some seg ∧ seg.record.pacing = .paced) →
      exec (.paceActive c level) s = .next paced)

/-- R66, R84, R88, R92: a read point. Behind a stale read it is deferred; a FREE segment, and a PACED one whose PACE
input is active, requests the bytes at the source pointer, 64 or the unread bytes if fewer; a PACED one whose input is
inactive becomes READY with the frames it holds, or waits with none. R66: the values with which a segment starts before
its first read point. -/
def Obligations.ReadPointAndSegmentStart : Prop :=
  (∀ (s : State) (c : ChannelNo) (seg : Segment), (s.chan c).current = some seg →
    ((s.chan c).readOutstanding = true →
      s.readPoint c = { s with channels := s.channels.set c { s.chan c with deferred := true } }) ∧
    ((s.chan c).readOutstanding = false →
      (seg.record.pacing = .free ∨ s.pace[c] = true →
        s.readPoint c =
          { s with
            channels := s.channels.set c { s.chan c with readOutstanding := true }
            port := s.port.requestRead c { addr := seg.pointer, count := min 64 seg.unread } }) ∧
      (seg.record.pacing = .paced → s.pace[c] = false →
        ((s.chan c).buffer ≠ [] →
          s.readPoint c = { s with channels := s.channels.set c { s.chan c with state := .ready } }) ∧
        ((s.chan c).buffer = [] → s.readPoint c = s)))) ∧
  ∀ (s : State) (c : ChannelNo) (r : SegmentRecord) (staged : List SegmentRecord),
    s.startSegment c r staged =
      ({ s with
        channels := s.channels.set c
          { s.chan c with
            state := .assembling
            current := some
              { record := r, pointer := r.source.toNat, committed := 0, held := 0, unread := r.length, retry := 0,
                stopPending := false }
            buffer := []
            ending := none
            staged := staged } } : State).readPoint c

/-- R85, R86, R87, R151, R152: the completion of a frame read with data. The bytes of the enabled lanes, in address
order, form the frame; its offset is the segment's and the bytes before it, and its last-of-segment flag says that no
byte is left. The channel becomes READY when its tenure buffer is complete and is otherwise at a read point; then the
arbiter chooses. -/
def Obligations.FrameReadCompletion : Prop :=
  (∀ (s : State) (c : ChannelNo) (r : ReadRequest) (seg : Segment) (words : List Word),
    s.port.inFlight = some (.read c r) → s.port.orphan = false → (s.chan c).state = .assembling →
    (s.chan c).deferred = false → (s.chan c).current = some seg → wellFormedAnswer words = true →
    words.length = accessSpan r.addr r.count →
      let bytes := Machine.readBytes r.addr r.count words
      let frame : HeldFrame :=
        { offset := seg.record.offset.map fun o => o + (r.addr - seg.record.source.toNat)
          last := decide (seg.unread - bytes.length = 0)
          payload := bytes }
      let taken : Channel :=
        { s.chan c with
          current := some
            { seg with pointer := seg.pointer + bytes.length, unread := seg.unread - bytes.length,
                       held := seg.held + bytes.length }
          buffer := (s.chan c).buffer ++ [frame]
          readOutstanding := false }
      (seg.record.tenureSize ≤ (s.chan c).buffer.length + 1 ∨ seg.unread - bytes.length = 0 →
        exec (.frameReadCompletion words) s = .next
          { s with channels := s.channels.set c { taken with state := .ready }, port := s.port.finish }) ∧
      (¬ (seg.record.tenureSize ≤ (s.chan c).buffer.length + 1 ∨ seg.unread - bytes.length = 0) →
        ∃ t : State, t = ({ s with channels := s.channels.set c taken } : State).readPoint c ∧
          exec (.frameReadCompletion words) s = .next { t with port := t.port.finish })) ∧
  ∀ (a n : Nat) (words : List Word), words.length = accessSpan a n →
    (Machine.readBytes a n words).length = n ∧
      ∀ i < n, ∃ word, words[(a % 4 + i) / 4]? = some word ∧
        (Machine.readBytes a n words)[i]? = some (byteOf word ((a + i) % 4))

/-- R91, R92, R107: a read that ends otherwise. An error response to the current segment's read ends the segment with
SOURCE_FAULT, its held frames discarded; a stale read, whatever its answer, is dropped: the read outstanding mark is
cleared and a deferred read point is taken. -/
def Obligations.ReadFaultAndStaleRead : Prop :=
  (∀ (s : State) (c : ChannelNo) (r : ReadRequest) (seg : Segment), s.port.inFlight = some (.read c r) →
    s.port.orphan = false → (s.chan c).state = .assembling → (s.chan c).deferred = false →
    (s.chan c).current = some seg →
      ∃ t : State,
        t = ({ s with channels := s.channels.set c { s.chan c with readOutstanding := false } } : State).endSegment c seg
              .sourceFault ∧
          exec .readFault s = .next { t with port := t.port.finish }) ∧
  ∀ (s : State) (c : ChannelNo) (r : ReadRequest), s.port.inFlight = some (.read c r) → s.port.orphan = false →
    ((s.chan c).state ≠ .assembling → (s.chan c).deferred = false →
      exec .staleReadCompletion s = .next
        { s with channels := s.channels.set c { s.chan c with readOutstanding := false }, port := s.port.finish }) ∧
    ((s.chan c).deferred = true →
      ∃ t : State,
        t = ({ s with
               channels :=
                 s.channels.set c { s.chan c with readOutstanding := false, deferred := false } } : State).readPoint c ∧
          exec .staleReadCompletion s = .next { t with port := t.port.finish })

/-- R140, R142, Figure 8-2: what the landing writer writes, and when it begins. A frame of an ONCE or TABLE window goes
to its target offset; a RING frame to its ring position, and where it passes the end of the region the rest goes to the
base. An idle writer takes a released head in progress; the completion of a first part brings the request of the
second. -/
def Obligations.LandingWriter : Prop :=
  (∀ (x : Window) (f : QueuedFrame),
    (x.kind ≠ .ring →
      splitAt x f = none ∧ firstPart x f = { addr := x.base.toNat + f.target.toNat, bytes := f.payload }) ∧
    (x.kind = .ring → f.ringPos + f.payload.length ≤ x.size →
      splitAt x f = none ∧ firstPart x f = { addr := x.base.toNat + f.ringPos, bytes := f.payload }) ∧
    (x.kind = .ring → x.size < f.ringPos + f.payload.length →
      (splitAt x f).isSome = true ∧
        firstPart x f = { addr := x.base.toNat + f.ringPos, bytes := f.payload.take (x.size - f.ringPos) } ∧
        secondPart x f = { addr := x.base.toNat, bytes := f.payload.drop (x.size - f.ringPos) })) ∧
  (∀ (s : State) (f : QueuedFrame) (rest : List QueuedFrame), s.landing.queue = f :: rest →
    (s.landing.writer = .idle → f.released = true →
      s.writerAct =
        { s with landing := { s.landing with writer := .first }
                 port := s.port.requestWrite (firstPart (s.win f.window) f) }) ∧
    ((s.landing.writer ≠ .idle ∨ f.released = false) → s.writerAct = s)) ∧
  (∀ s : State, s.landing.queue = [] → s.writerAct = s) ∧
  ∀ (s : State) (w : WriteRequest) (f : QueuedFrame) (rest : List QueuedFrame), s.port.inFlight = some (.write w) →
    s.port.orphan = false → s.landing.queue = f :: rest → s.landing.writer = .first →
    (splitAt (s.win f.window) f).isSome = true →
      exec .splitFirstPartCompletion s = .next
        { s with landing := { s.landing with writer := .second }
                 port := (s.port.requestWrite (secondPart (s.win f.window) f)).finish }

/-- R141, R143, R145: the completion of the last part of a frame's write. The frame leaves the head, V of its window
advances by its bytes, the note test and the drain test are made, an event makes or joins the window's note (that two
events of one completion merge before the grant is log 21), the writer acts on the new head and the arbiter chooses. -/
def Obligations.LandingWriteCompletion : Prop :=
  ∀ (s : State) (w : WriteRequest) (f : QueuedFrame) (rest : List QueuedFrame), s.port.inFlight = some (.write w) →
    s.port.orphan = false → s.landing.queue = f :: rest →
    (s.landing.writer = .second ∨ (s.landing.writer = .first ∧ splitAt (s.win f.window) f = none)) →
      ∃ progress full closed : Bool,
        let x := s.win f.window
        let visible := x.visible + BitVec.ofNat 32 f.payload.length
        (progress = true ↔
          (x.notify = .eachTenure ∧ ∀ g ∈ rest, g.tenure ≠ f.tenure) ∨ (x.notify = .segmentEnd ∧ f.last = true)) ∧
        (full = true ↔ x.kind = .once ∧ x.state = .opened ∧ visible.toNat = x.size) ∧
        (closed = true ↔ x.state = .closing ∧ ∀ g ∈ rest, g.window ≠ f.window) ∧
        (let note1 := if progress then some (mergeEvent x.note .progress) else x.note
         let note2 := if full then some (mergeEvent note1 .full) else note1
         let written : State :=
          { s with
            landing :=
              { s.landing with
                windows := s.landing.windows.set f.window
                  { x with
                    visible := visible
                    state := if full then .full else if closed then .closed else x.state
                    note := if closed then some (mergeEvent note2 .closed) else note2 }
                queue := rest
                writer := .idle } }
         exec .landingWriteCompletion s = .next ((written.offer (.window f.window)).writerAct.finishAccess))

/-- R146, R147, R152: a write fault. The window becomes FAULTED at the first address of the part that failed, its frames
leave the queue and no other window's, its offsets stay, a FAULT event is made, and a vote whose tentative frames were
removed becomes REFUSE; then the writer acts on the new head and the arbiter chooses. -/
def Obligations.WriteFault : Prop :=
  ∀ (s : State) (w : WriteRequest) (f : QueuedFrame) (rest : List QueuedFrame), s.port.inFlight = some (.write w) →
    s.port.orphan = false → s.landing.queue = f :: rest → s.landing.writer ≠ .idle →
      ∃ vote : Option TenureVote,
        (∀ v, s.landing.vote = some v →
          ((v.window = f.window ∧ ∃ g ∈ s.landing.queue, g.window = f.window ∧ g.released = false) →
            vote = some { v with running := .refuse }) ∧
          (¬ (v.window = f.window ∧ ∃ g ∈ s.landing.queue, g.window = f.window ∧ g.released = false) →
            vote = some v)) ∧
        (s.landing.vote = none → vote = none) ∧
        (let address : Word := BitVec.ofNat 32 w.addr
         let faulted : State :=
          { s with
            landing :=
              { windows := s.landing.windows.set f.window
                  { s.win f.window with state := .faulted, faultAddr := some address,
                                        note := some (mergeEvent (s.win f.window).note (.fault address)) }
                queue := s.landing.queue.filter fun g => g.window != f.window
                vote := vote
                writer := .idle } }
         exec .writeFault s = .next ((faulted.offer (.window f.window)).writerAct.finishAccess))

/-- R152, R153, R156: the arbiter. At a completion a waiting landing write is served, otherwise the first channel with a
read waiting after the last-served one, and otherwise the port is idle; a request is served at once where nothing is in
flight and otherwise waits. The answer of an orphan goes to no one. -/
def Obligations.ArbiterAndOrphan : Prop :=
  (∀ (p : MemPort),
    (∀ w, p.write = some w → p.finish = { p with inFlight := some (.write w), orphan := false, write := none }) ∧
    (p.write = none →
      (∀ (c : ChannelNo) (r : ReadRequest), p.reads[c] = some r →
        (∀ d : ChannelNo, (p.reads[d]).isSome = true →
          channelDistance p.lastServed c ≤ channelDistance p.lastServed d) →
        p.finish = { p with inFlight := some (.read c r), orphan := false, reads := p.reads.set c none, lastServed := c }) ∧
      ((∀ d : ChannelNo, p.reads[d] = none) → p.finish = { p with inFlight := none, orphan := false })) ∧
    (∀ (c : ChannelNo) (r : ReadRequest) (w : WriteRequest),
      (p.inFlight.isSome = true →
        p.requestRead c r = { p with reads := p.reads.set c (some r) } ∧ p.requestWrite w = { p with write := some w }) ∧
      (p.inFlight = none → p.write = none → (∀ d : ChannelNo, p.reads[d] = none) →
        p.requestRead c r = { p with inFlight := some (.read c r), lastServed := c } ∧
          p.requestWrite w = { p with inFlight := some (.write w) }))) ∧
  ∀ s : State, s.port.inFlight.isSome = true → s.port.orphan = true →
    exec .orphanCompletion s = .next { s with port := s.port.finish }

/-- R151: the words of an access. They are the words from the one that holds the first address on, as many as the bytes
span, at most 17 for 64 bytes; each carries the byte enables of its bytes that belong to the access and no others, and
in a write the byte of each enabled lane; up to 16 words make one burst, and a seventeenth its own. (What a lane that is
not enabled carries, and the data of a read, are the model's choice, log 30, and not stated.) -/
def Obligations.WordsOfAnAccess : Prop :=
  (∀ (a n : Nat) (bytes : List Byte) (i : Nat), i < accessSpan a n →
    ∃ x, (transfers a n bytes)[i]? = some x ∧ x.addr = a / 4 * 4 + 4 * i ∧
      ∀ lane < 4,
        (x.enables.getLsbD lane = true ↔ a ≤ x.addr + lane ∧ x.addr + lane < a + n) ∧
        (bytes.length = n → a ≤ x.addr + lane → x.addr + lane < a + n →
          some (byteOf x.data lane) = bytes[x.addr + lane - a]?)) ∧
  (∀ (a n : Nat) (bytes : List Byte), (transfers a n bytes).length = accessSpan a n) ∧
  (∀ a n : Nat, n ≤ 64 → accessSpan a n ≤ 17) ∧
  ∀ x : Access, (accessBursts x).flatten = accessTransfers x ∧
    ((accessTransfers x).length ≤ 16 → accessBursts x = [accessTransfers x]) ∧
    ((accessTransfers x).length = 17 →
      ∃ (first : List Transfer) (seventeenth : Transfer), accessBursts x = [first, [seventeenth]] ∧ first.length = 16)

/-! ## Segments and channel commands -/

/-- R68, R69, R71 to R73, R76, R160: a segment ends. Its frames are discarded and their bytes counted unread again, its
ending record is formed, and the channel waits in ENDING; with room in the log its record enters at once and the channel
leaves ENDING. After a DONE without a stop it goes on to the staged head, a repeat copy being staged last (or started
again with nothing staged), or to IDLE; after any other end to HALTED, its staged queue kept. That a deferred read point
and a pending stop are cleared as their segment ends is the model's reading (log 24). -/
def Obligations.SegmentEndAndGrant : Prop :=
  (∀ (s : State) (c : ChannelNo) (seg : Segment) (status : SegmentStatus),
    let report : SegmentEnd :=
      { channel := c, status := status, tag := seg.record.tag, committed := seg.committed, retry := seg.retry,
        repeats := seg.record.repeats, notify := seg.record.notify }
    ∃ stopTaken : Bool, (stopTaken = true ↔ status = .stopped ∨ seg.stopPending = true) ∧
      (let ended : State :=
        { s with
          channels := s.channels.set c
            { s.chan c with
              state := .ending
              current := some { seg with held := 0, unread := seg.unread + seg.held, stopPending := false }
              buffer := []
              ending := some { report := report, stopTaken := stopTaken }
              deferred := false } }
       (32 ≤ s.log.records.length → s.endSegment c seg status = ended) ∧
       (s.log.records.length < 32 →
         s.endSegment c seg status =
          ({ ended with log := { records := s.log.records ++ [.segmentEnd report], pointer := .channel c } } :
            State).leaveEnding c { report := report, stopTaken := stopTaken }))) ∧
  ∀ (s : State) (c : ChannelNo) (e : EndingRecord) (seg : Segment), (s.chan c).current = some seg →
    ((e.report.status ≠ .done ∨ e.stopTaken = true) →
      s.leaveEnding c e =
        { s with channels := s.channels.set c { s.chan c with state := .halted, current := none, ending := none } }) ∧
    (e.report.status = .done → e.stopTaken = false →
      (∀ r rest, (s.chan c).staged = r :: rest →
        s.leaveEnding c e = s.startSegment c r (if seg.record.repeats then rest ++ [seg.record] else rest)) ∧
      ((s.chan c).staged = [] → seg.record.repeats = true → s.leaveEnding c e = s.startSegment c seg.record []) ∧
      ((s.chan c).staged = [] → seg.record.repeats = false →
        s.leaveEnding c e =
          { s with channels := s.channels.set c { s.chan c with state := .idle, current := none, ending := none } }))

/-- R63, R65, R165, R166, Figure 10-10: PUSH. A field out of range gives BAD_FIELD, before anything else: a channel
above 3, a destination from 16 to 30, a length of 0 or above 1,048,576, a tenure size of 0 or above 8, a segment past
the top of the address space, or one whose frames pass the last offset. A record that passes holds the fields of the
four words; it starts in an IDLE channel, is staged at the tail in any other while fewer than 8 are staged, and gives
QUEUE_FULL otherwise. -/
def Obligations.Push : Prop :=
  (∀ words : Vector Word 4,
    (pushFields words = none ↔
      3 < getField words[3] 24 8 ∨ (16 ≤ getField words[2] 0 5 ∧ getField words[2] 0 5 ≤ 30) ∨
        words[1].toNat = 0 ∨ 1048576 < words[1].toNat ∨ getField words[2] 12 4 = 0 ∨ 8 < getField words[2] 12 4 ∨
        2 ^ 32 < words[0].toNat + words[1].toNat ∨
        (getField words[3] 23 1 = 1 ∧ 1048576 < getField words[3] 0 20 + words[1].toNat)) ∧
    ∀ c r, pushFields words = some (c, r) →
      c.val = getField words[3] 24 8 ∧ r.source = words[0] ∧ r.length = words[1].toNat ∧
        destCode r.dest = getField words[2] 0 5 ∧ r.window.val = getField words[2] 8 4 ∧
        r.tenureSize = getField words[2] 12 4 ∧ r.tag.toNat = getField words[2] 16 16 ∧
        (getField words[3] 23 1 = 0 → r.offset = none) ∧
        (getField words[3] 23 1 = 1 → r.offset = some (getField words[3] 0 20)) ∧
        (r.pacing = .paced ↔ getField words[3] 20 1 = 1) ∧ (r.repeats = true ↔ getField words[3] 21 1 = 1) ∧
        (r.notify = true ↔ getField words[3] 22 1 = 1)) ∧
  (∀ id : StationId, destCode (.station id) = id.val) ∧ destCode .all = 31 ∧
  ∀ s : State, s.membership.link ≠ .down →
    (pushFields s.cmd.words = none → exec .push s = .next (s.answered 0x01 .badField noWords)) ∧
    ∀ c r, pushFields s.cmd.words = some (c, r) →
      r.valid = true ∧
      ((s.chan c).state = .idle →
        exec .push s = .next ((s.startSegment c r (s.chan c).staged).answered 0x01 .ok noWords)) ∧
      ((s.chan c).state ≠ .idle → (s.chan c).staged.length < 8 →
        exec .push s = .next
          (({ s with channels := s.channels.set c { s.chan c with staged := (s.chan c).staged ++ [r] } } : State).answered
            0x01 .ok noWords)) ∧
      ((s.chan c).state ≠ .idle → 8 ≤ (s.chan c).staged.length →
        exec .push s = .next (s.answered 0x01 .queueFull noWords))

/-- R78, R79, R108 to R110, R166: STOP, RESUME and FLUSH. A channel number above 3 gives BAD_FIELD. STOP ends the
segment of an ASSEMBLING or READY channel, leaves a stop pending with an ON_BUS one, and is WRONG_STATE elsewhere.
RESUME starts the staged head of a HALTED channel, or makes it IDLE, and is WRONG_STATE elsewhere. FLUSH discards the
staged records of a channel in any state and counts them in its FLUSHED note. -/
def Obligations.StopResumeFlush : Prop :=
  (∀ word : Word, channelField word = none ↔ 3 < word.toNat % 256) ∧
  ∀ s : State, s.membership.link ≠ .down →
    (channelField s.cmd.words[0] = none →
      exec .stop s = .next (s.answered 0x02 .badField noWords) ∧
        exec .resume s = .next (s.answered 0x03 .badField noWords) ∧
        exec .flush s = .next (s.answered 0x04 .badField noWords)) ∧
    ∀ c, channelField s.cmd.words[0] = some c →
      c.val = s.cmd.words[0].toNat % 256 ∧
      (∀ seg, (s.chan c).current = some seg →
        ((s.chan c).state = .assembling ∨ (s.chan c).state = .ready →
          exec .stop s = .next ((s.endSegment c seg .stopped).answered 0x02 .ok noWords)) ∧
        ((s.chan c).state = .onBus →
          exec .stop s = .next
            (({ s with
                channels :=
                  s.channels.set c { s.chan c with current := some { seg with stopPending := true } } } : State).answered
              0x02 .ok noWords))) ∧
      ((s.chan c).state = .idle ∨ (s.chan c).state = .ending ∨ (s.chan c).state = .halted →
        exec .stop s = .next (s.answered 0x02 .wrongState noWords)) ∧
      ((s.chan c).state = .halted →
        (∀ r rest, (s.chan c).staged = r :: rest →
          exec .resume s = .next ((s.startSegment c r rest).answered 0x03 .ok noWords)) ∧
        ((s.chan c).staged = [] →
          exec .resume s = .next
            (({ s with channels := s.channels.set c { s.chan c with state := .idle } } : State).answered 0x03 .ok
              noWords))) ∧
      ((s.chan c).state ≠ .halted → exec .resume s = .next (s.answered 0x03 .wrongState noWords)) ∧
      ((s.chan c).staged = [] → exec .flush s = .next (s.answered 0x04 .ok noWords)) ∧
      ((s.chan c).staged ≠ [] →
        exec .flush s = .next
          ((({ s with
               channels :=
                 s.channels.set c
                   { s.chan c with
                     staged := []
                     flushCount := min 255 ((s.chan c).flushCount + (s.chan c).staged.length) } } : State).offer
            (.channel c)).answered 0x04 .ok noWords))

/-- R81, R126, R133, R166, R169, Figures 4-7, 10-12 and 10-13: QUERY_CHANNEL and QUERY_WINDOW change nothing but the
command port, where an OK result shows the channel, or the part of the window record named, as it stands: every field of
Figures 10-12 and 10-13 at its place, its counts within their limits. A channel above 3, a window above 15 and a part
above 2 give BAD_FIELD. (What the event field and the last sender field show where there is none is the model's, logs 28
and 29, and is not stated.) -/
def Obligations.Queries : Prop :=
  [ChannelState.idle, .assembling, .ready, .onBus, .ending, .halted].map channelStateCode = [0, 1, 2, 3, 4, 5] ∧
  [SegmentStatus.done, .stopped, .refused, .noReceiver, .retryExhausted, .sourceFault].map statusCode = [0, 1, 2, 3, 4, 5] ∧
  [WindowState.closed, .opened, .closing, .full, .faulted].map windowStateCode = [0, 1, 2, 3, 4] ∧
  [WindowKind.once, .ring, .table].map kindCode = [0, 1, 2] ∧
  [NotifyMode.none, .eachTenure, .segmentEnd].map notifyCode = [0, 1, 2] ∧ [false, true].map flagCode = [0, 1] ∧
  (∀ id : StationId, destCode (.station id) = id.val) ∧ destCode .all = 31 ∧
  (∀ a : Word, [WindowEvent.progress, .full, .closed, .fault a].map eventCode = [0, 1, 2, 3]) ∧
  (∀ word : Word, (channelField word = none ↔ 3 < word.toNat % 256) ∧
    (∀ c, channelField word = some c → c.val = word.toNat % 256) ∧
    (windowField word = none ↔ 15 < word.toNat % 256) ∧ ∀ w, windowField word = some w → w.val = word.toNat % 256) ∧
  ∀ s : State, s.membership.link ≠ .down →
    (channelField s.cmd.words[0] = none → exec .queryChannel s = .next (s.answered 0x05 .badField noWords)) ∧
    (∀ c, channelField s.cmd.words[0] = some c →
      let ch := s.chan c
      ∃ words : Vector Word 4, exec .queryChannel s = .next (s.answered 0x05 .ok words) ∧
        (ch.staged.length ≤ 8 → ch.flushCount ≤ 255 →
          (∀ seg, ch.current = some seg →
            seg.committed ≤ 1048576 ∧ seg.unread ≤ 1048576 ∧ seg.held ≤ 512 ∧ seg.retry ≤ 16) →
          getField words[0] 0 3 = channelStateCode ch.state ∧ getField words[0] 3 4 = ch.staged.length ∧
            getField words[0] 7 8 = ch.flushCount ∧ getField words[0] 15 1 = flagCode ch.current.isSome ∧
            (∀ e, ch.state = .ending → ch.ending = some e → getField words[3] 24 3 = statusCode e.report.status) ∧
            (ch.state ≠ .ending → getField words[3] 24 3 = 7) ∧
            (ch.current = none →
              getField words[0] 16 16 = 0 ∧ words[1] = 0 ∧ words[2] = 0 ∧ getField words[3] 0 24 = 0) ∧
            ∀ seg, ch.current = some seg →
              getField words[0] 16 16 = seg.record.tag.toNat ∧
                getField words[1] 0 21 = seg.committed ∧ getField words[1] 24 4 = seg.record.window.val ∧
                getField words[1] 28 1 = flagCode seg.stopPending ∧ getField words[1] 29 1 = flagCode seg.record.repeats ∧
                getField words[1] 30 1 = flagCode seg.record.notify ∧
                getField words[2] 0 21 = seg.unread ∧ getField words[2] 24 5 = destCode seg.record.dest ∧
                getField words[3] 0 10 = seg.held ∧ getField words[3] 16 5 = seg.retry)) ∧
    (windowField s.cmd.words[0] = none → exec .queryWindow s = .next (s.answered 0x0C .badField noWords)) ∧
    ∀ w, windowField s.cmd.words[0] = some w →
      let x := s.win w
      let part := s.cmd.words[1].toNat % 256
      (2 < part → exec .queryWindow s = .next (s.answered 0x0C .badField noWords)) ∧
      (part ≤ 2 → ∃ words : Vector Word 4, exec .queryWindow s = .next (s.answered 0x0C .ok words) ∧
        (part = 0 →
          getField words[0] 0 3 = windowStateCode x.state ∧ getField words[0] 4 2 = kindCode x.kind ∧
            getField words[0] 8 2 = notifyCode x.notify ∧ getField words[0] 16 16 = x.filter.toNat ∧
            words[1] = x.base ∧ words[2] = BitVec.ofNat 32 x.size ∧ words[3] = 0) ∧
        (part = 1 → words = #v[x.accepted, x.commitMark, x.visible, x.consumed]) ∧
        (part = 2 →
          (x.committedFrames ≤ 65535 →
            getField words[0] 0 16 = x.committedFrames ∧ getField words[0] 16 1 = flagCode x.lastSender.isSome ∧
              ∀ id, x.lastSender = some id → getField words[0] 20 4 = id.val) ∧
          words[1] = x.faultAddr.getD 0 ∧
          (s.landing.queue.length ≤ 16 →
            getField words[2] 0 1 = flagCode x.faultAddr.isSome ∧
              getField words[2] 8 5 = (s.landing.queue.filter fun f => f.window == w).length ∧
              getField words[2] 19 1 = flagCode x.note.isSome ∧
              ∀ e, x.note = some e → getField words[2] 16 2 = eventCode e) ∧
          words[3] = 0))

/-! ## Window and membership commands -/

/-- R126, R127, R130, R132, Figure 10-11: OPEN, CONSUME and REARM. OPEN checks its fields first (a window above 15, kind
3, notify 3, a base off a multiple of 4, a size of 0 or above 1,048,576, a region past the top of the address space, an
empty filter give BAD_FIELD) and then asks for a CLOSED window, which it opens with its offsets at 0 and its pending
note kept. CONSUME asks for an OPEN window, then for a RING, then for no more than V less the consumed offset. REARM
reopens a FULL window from its first byte. -/
def Obligations.OpenConsumeRearm : Prop :=
  (∀ words : Vector Word 4,
    (openFields words = none ↔
      15 < words[0].toNat % 256 ∨ getField words[0] 8 2 = 3 ∨ getField words[0] 12 2 = 3 ∨ words[1].toNat % 4 ≠ 0 ∨
        words[2].toNat = 0 ∨ 1048576 < words[2].toNat ∨ 2 ^ 32 < words[1].toNat + words[2].toNat ∨
        getField words[3] 0 16 = 0) ∧
    ∀ w f, openFields words = some (w, f) →
      w.val = words[0].toNat % 256 ∧ kindCode f.kind = getField words[0] 8 2 ∧
        notifyCode f.notify = getField words[0] 12 2 ∧ f.base = words[1] ∧ f.size = words[2].toNat ∧
        f.filter.toNat = getField words[3] 0 16) ∧
  (∀ word : Word, windowField word = none ↔ 15 < word.toNat % 256) ∧
  ∀ s : State, s.membership.link ≠ .down →
    (openFields s.cmd.words = none → exec .openWindow s = .next (s.answered 0x08 .badField noWords)) ∧
    (∀ w f, openFields s.cmd.words = some (w, f) →
      f.valid = true ∧
      ((s.win w).state ≠ .closed → exec .openWindow s = .next (s.answered 0x08 .wrongState noWords)) ∧
      ((s.win w).state = .closed →
        exec .openWindow s = .next
          (({ s with
            landing :=
              { s.landing with
                windows := s.landing.windows.set w
                  { state := .opened, kind := f.kind, base := f.base, size := f.size, filter := f.filter,
                    notify := f.notify, accepted := 0, commitMark := 0, visible := 0, consumed := 0, ringPos := 0,
                    committedFrames := 0, lastSender := none, faultAddr := none, note := (s.win w).note } } } :
            State).answered 0x08 .ok noWords))) ∧
    (windowField s.cmd.words[0] = none →
      exec .consume s = .next (s.answered 0x0A .badField noWords) ∧
        exec .rearm s = .next (s.answered 0x0B .badField noWords)) ∧
    ∀ w, windowField s.cmd.words[0] = some w →
      let x := s.win w
      let n := s.cmd.words[1]
      w.val = s.cmd.words[0].toNat % 256 ∧
      (x.state ≠ .opened → exec .consume s = .next (s.answered 0x0A .wrongState noWords)) ∧
      (x.state = .opened → x.kind ≠ .ring → exec .consume s = .next (s.answered 0x0A .badField noWords)) ∧
      (x.state = .opened → x.kind = .ring → (x.visible - x.consumed).toNat < n.toNat →
        exec .consume s = .next (s.answered 0x0A .badField noWords)) ∧
      (x.state = .opened → x.kind = .ring → n.toNat ≤ (x.visible - x.consumed).toNat →
        exec .consume s = .next
          (({ s with
            landing :=
              { s.landing with windows := s.landing.windows.set w { x with consumed := x.consumed + n } } } :
            State).answered 0x0A .ok noWords)) ∧
      (x.state ≠ .full → exec .rearm s = .next (s.answered 0x0B .wrongState noWords)) ∧
      (x.state = .full →
        exec .rearm s = .next
          (({ s with
            landing :=
              { s.landing with
                windows := s.landing.windows.set w
                  { x with state := .opened, accepted := 0, commitMark := 0, visible := 0, consumed := 0,
                           committedFrames := 0 } } } : State).answered 0x0B .ok noWords))

/-- R126, R128, R145, Figure 7-6: CLOSE. A window above 15 gives BAD_FIELD. An OPEN or FULL window drains: with a frame
in the landing queue it is CLOSING, with none it is CLOSED at once with a CLOSED event; a FAULTED one is CLOSED at once
with a CLOSED event; elsewhere WRONG_STATE. -/
def Obligations.Close : Prop :=
  (∀ word : Word, (windowField word = none ↔ 15 < word.toNat % 256) ∧
    ∀ w, windowField word = some w → w.val = word.toNat % 256) ∧
  ∀ s : State, s.membership.link ≠ .down →
    (windowField s.cmd.words[0] = none → exec .closeWindow s = .next (s.answered 0x09 .badField noWords)) ∧
    ∀ w, windowField s.cmd.words[0] = some w →
      let x := s.win w
      let closed : State :=
        { s with
          landing :=
            { s.landing with
              windows := s.landing.windows.set w
                { x with state := .closed, note := some (mergeEvent x.note .closed) } } }
      let closing : State :=
        { s with landing := { s.landing with windows := s.landing.windows.set w { x with state := .closing } } }
      (x.state = .closed ∨ x.state = .closing → exec .closeWindow s = .next (s.answered 0x09 .wrongState noWords)) ∧
      (x.state = .faulted →
        exec .closeWindow s = .next ((closed.offer (.window w)).answered 0x09 .ok noWords)) ∧
      (x.state = .opened ∨ x.state = .full →
        ((∀ f ∈ s.landing.queue, f.window ≠ w) →
          exec .closeWindow s = .next ((closed.offer (.window w)).answered 0x09 .ok noWords)) ∧
        ((∃ f ∈ s.landing.queue, f.window = w) →
          exec .closeWindow s = .next ((closing.offer (.window w)).answered 0x09 .ok noWords)))

/-- R58, R59, R60, R165, Figure 3-10: LEAVE and JOIN by link state, with the timers and wants that the new state holds,
and a note where the link state becomes OUT. That a LEAVE while a join answer is being sent lets the answer go on is the
model's choice (log 27). -/
def Obligations.LeaveAndJoin : Prop :=
  ∀ s : State,
    (s.membership.link = .member →
      exec .leave s = .next
        (({ s with membership := { s.membership with link := .leaving, formationTimer := .stopped,
                                                     formationWant := false } } : State).answered 0x10 .ok noWords)) ∧
    (s.membership.link = .listening ∨ s.membership.link = .joining →
      exec .leave s = .next
        ((({ s with
            membership :=
              { s.membership with link := .out, lastReason := .left, idleTimer := .stopped, formationTimer := .stopped,
                                  idleWant := false, formationWant := false } } : State).note (.change .left)).answered
          0x10 .ok noWords)) ∧
    (s.membership.link = .leaving ∨ s.membership.link = .out →
      exec .leave s = .next (s.answered 0x10 .wrongState noWords)) ∧
    (s.membership.link = .out →
      exec .join s = .next
        (({ s with
            membership :=
              { s.membership with link := .listening, idleTimer := .stopped, formationTimer := .running,
                                  idleWant := false, formationWant := false } } : State).answered 0x11 .ok noWords)) ∧
    (s.membership.link ≠ .out → s.membership.link ≠ .down →
      exec .join s = .next (s.answered 0x11 .wrongState noWords))

/-! ## The completion log and the register window -/

/-- R60, R61, R80, R144, R160: notes and their records. A cause makes the membership note pending, or takes its place in
the one pending. A window event joins the pending note: nothing gives way to a PROGRESS, and a FAULT only to a FAULT. A
grant places the record with the values of that moment at the tail and moves the grant pointer to its producer: the
membership note, a FLUSHED note with its count, a window's note with V or the fault address, its count of frames
becoming 0. -/
def Obligations.NotesAndGrants : Prop :=
  (∀ (s : State) (n : NoteReason),
    let noted : State := { s with membership := { s.membership with note := some n } }
    (32 ≤ s.log.records.length → s.note n = noted) ∧ (s.log.records.length < 32 → s.note n = noted.grant .membership)) ∧
  (∀ e p : WindowEvent, ∀ a : Word,
    mergeEvent none e = e ∧ mergeEvent (some p) .progress = p ∧
      ((∀ b, p ≠ .fault b) → e ≠ .progress → mergeEvent (some p) e = e) ∧
      ((∀ b, e ≠ .fault b) → mergeEvent (some (.fault a)) e = .fault a) ∧
      mergeEvent (some p) (.fault a) = .fault a) ∧
  (∀ (s : State) (n : NoteReason), s.membership.note = some n →
    s.grant .membership =
      { s with
        membership := { s.membership with note := none }
        log :=
          { records := s.log.records ++
              [.membership
                { link := s.membership.link, reason := n, memberCount := s.memberCount, rank := s.ownRank,
                  mode := s.membership.mode, interval := s.membership.interval }]
            pointer := .membership } }) ∧
  (∀ (s : State) (c : ChannelNo) (e : EndingRecord), (s.chan c).ending = some e →
    s.grant (.channel c) =
      ({ s with log := { records := s.log.records ++ [.segmentEnd e.report], pointer := .channel c } } :
        State).leaveEnding c e) ∧
  (∀ (s : State) (c : ChannelNo), (s.chan c).ending = none → 0 < (s.chan c).flushCount →
    s.grant (.channel c) =
      { s with
        channels := s.channels.set c { s.chan c with flushCount := 0 }
        log := { records := s.log.records ++ [.flushed c (s.chan c).flushCount], pointer := .channel c } }) ∧
  ∀ (s : State) (w : WindowNo) (e : WindowEvent), (s.win w).note = some e →
    ∃ value : Word, (∀ a, e = .fault a → value = a) ∧ ((∀ a, e ≠ .fault a) → value = (s.win w).visible) ∧
      s.grant (.window w) =
        { s with
          landing :=
            { s.landing with
              windows := s.landing.windows.set w { s.win w with note := none, committedFrames := 0 } }
          log :=
            { records := s.log.records ++
                [.landing { window := w, event := e, value := value, frames := (s.win w).committedFrames,
                            lastSender := (s.win w).lastSender }]
              pointer := .window w } }

/-- R158 to R160, R162, R169: POP. The write sets the interrupt enable; a pop of an empty log does nothing else; a pop
takes the head, and where the log then has room the freed slot goes to the waiting producer that stands first after the
grant pointer, if one waits. -/
def Obligations.PopAndTheFreedSlot : Prop :=
  (∀ (s : State) (enable : Bool), s.membership.link ≠ .down →
    let enabled : State := { s with cmd := { s.cmd with intEnable := enable } }
    (s.log.records = [] → exec (.pop enable) s = .next enabled) ∧
    ∀ r rest, s.log.records = r :: rest →
      let popped : State := { enabled with log := { s.log with records := rest } }
      ((32 ≤ rest.length ∨ ∀ p, s.waiting p = false) → exec (.pop enable) s = .next popped) ∧
      ∀ p, rest.length < 32 → s.waiting p = true →
        (∀ q, s.waiting q = true → producerDistance s.log.pointer p ≤ producerDistance s.log.pointer q) →
        exec (.pop enable) s = .next (popped.grant p)) ∧
  ∀ s : State, s.waiting .membership = s.membership.note.isSome ∧
    (∀ c, s.waiting (.channel c) = true ↔ (s.chan c).ending.isSome = true ∨ 0 < (s.chan c).flushCount) ∧
    ∀ w, s.waiting (.window w) = (s.win w).note.isSome

/-- R163: INT is active while the log holds a record and the interrupt enable is set, and otherwise inactive; the log
control word shows the level. -/
def Obligations.InterruptLine : Prop :=
  ∀ s : State, (s.intLevel = true ↔ 0 < s.log.records.length ∧ s.cmd.intEnable = true) ∧
    (s.membership.link ≠ .down → (s.readWord 11).getLsbD 2 = s.intLevel)

/-- R170: while RESET is asserted every read returns 0 (result code OK and link state DOWN are encoded 0) and every
write, commands and pops among them, is ignored. -/
def Obligations.RegistersWhileResetIsAsserted : Prop :=
  ∀ s : State, s.membership.link = .down →
    (∀ index, s.readWord index = 0) ∧
    (∀ (w : PlainWord) (value : Word) (enables : BitVec 4), exec (.registerWrite w value enables) s = .next s) ∧
    (∀ enable, exec (.pop enable) s = .next s ∧ exec (.setInterruptEnable enable) s = .next s) ∧
    (∀ code, knownCodes.contains code = false → exec (.unknownCommand code) s = .next s) ∧
    (∀ pins, exec (.stationReset pins) s = .next s) ∧
    exec .push s = .next s ∧ exec .stop s = .next s ∧ exec .resume s = .next s ∧ exec .flush s = .next s ∧
    exec .queryChannel s = .next s ∧ exec .openWindow s = .next s ∧ exec .closeWindow s = .next s ∧
    exec .consume s = .next s ∧ exec .rearm s = .next s ∧ exec .queryWindow s = .next s ∧ exec .leave s = .next s ∧
    exec .join s = .next s

/-- R162, R165, R168, R169, Figures 10-6 to 10-8 and 10-14: the other accesses of the register window. A read shows the
command words, the command code, the result code and words, the status word, the log control word (the POP bit reads 0),
and the record at the head of the log with every field of its kind at its place (its counts within their limits), or
four words 0 of an empty log. A write of a command word takes the bytes whose enables are set and keeps the others; a
read-only word ignores it; the log control word sets the interrupt enable; an unknown code is stored and answered
UNKNOWN_COMMAND with result words 0. (What the rank field and the last sender field of a record show where absent is the
model's, log 29, and is not stated.) -/
def Obligations.RegisterReadsAndWrites : Prop :=
  [LinkState.down, .listening, .joining, .member, .leaving, .out].map linkCode = [0, 1, 2, 3, 4, 5] ∧
  [ResultCode.ok, .wrongState, .queueFull, .badField, .unknownCommand].map resultCodeValue = [0, 1, 2, 3, 4] ∧
  [NoteReason.change .formed, .change .joined, .change .collided, .change .diverged, .change .struck, .change .left,
    .change .reset, .listChanged].map reasonCode = [0, 1, 2, 3, 4, 5, 6, 7] ∧
  [BusMode.rotate, .fixed].map modeCode = [0, 1] ∧ [Interval.t64, .t256, .t1024, .t4096].map intervalCode = [0, 1, 2, 3] ∧
  [false, true].map flagCode = [0, 1] ∧
  [SegmentStatus.done, .stopped, .refused, .noReceiver, .retryExhausted, .sourceFault].map statusCode = [0, 1, 2, 3, 4, 5] ∧
  (∀ a : Word, [WindowEvent.progress, .full, .closed, .fault a].map eventCode = [0, 1, 2, 3]) ∧
  ∀ s : State, s.membership.link ≠ .down →
    (∀ (i : Fin 4) (index : Fin 16),
      (index.val = i.val → s.readWord index = s.cmd.words[i]) ∧
        (index.val = i.val + 6 → s.readWord index = s.cmd.results[i]) ∧
        (s.log.records = [] → index.val = i.val + 12 → s.readWord index = 0)) ∧
    (s.readWord 4).toNat = s.cmd.code.toNat ∧ (s.readWord 5).toNat = resultCodeValue s.cmd.result ∧
    (∀ e rest, s.log.records = .segmentEnd e :: rest → e.committed < 2 ^ 21 → e.retry < 32 →
      getField (s.readWord 12) 0 4 = 1 ∧ getField (s.readWord 12) 4 2 = e.channel.val ∧
        getField (s.readWord 12) 8 3 = statusCode e.status ∧ getField (s.readWord 12) 12 1 = flagCode e.repeats ∧
        getField (s.readWord 12) 13 1 = flagCode e.notify ∧ getField (s.readWord 12) 16 16 = e.tag.toNat ∧
        (s.readWord 13).toNat = e.committed ∧ (s.readWord 14).toNat = e.retry ∧ s.readWord 15 = 0) ∧
    (∀ c count rest, s.log.records = .flushed c count :: rest → count < 256 →
      getField (s.readWord 12) 0 4 = 2 ∧ getField (s.readWord 12) 4 2 = c.val ∧ getField (s.readWord 12) 6 26 = 0 ∧
        (s.readWord 13).toNat = count ∧ s.readWord 14 = 0 ∧ s.readWord 15 = 0) ∧
    (∀ l rest, s.log.records = .landing l :: rest → l.frames < 65536 →
      getField (s.readWord 12) 0 4 = 3 ∧ getField (s.readWord 12) 4 4 = l.window.val ∧
        getField (s.readWord 12) 8 2 = eventCode l.event ∧ getField (s.readWord 12) 12 1 = flagCode l.lastSender.isSome ∧
        (∀ id, l.lastSender = some id → getField (s.readWord 12) 16 4 = id.val) ∧
        s.readWord 13 = l.value ∧ (s.readWord 14).toNat = l.frames ∧ s.readWord 15 = 0) ∧
    (∀ m rest, s.log.records = .membership m :: rest → m.memberCount ≤ 16 → (∀ rank, m.rank = some rank → rank < 16) →
      getField (s.readWord 12) 0 4 = 4 ∧ getField (s.readWord 12) 4 3 = linkCode m.link ∧
        getField (s.readWord 12) 8 4 = reasonCode m.reason ∧ getField (s.readWord 12) 12 1 = flagCode m.rank.isSome ∧
        (∀ rank, m.rank = some rank → getField (s.readWord 12) 16 4 = rank) ∧
        getField (s.readWord 12) 20 5 = m.memberCount ∧ getField (s.readWord 12) 25 1 = modeCode m.mode ∧
        getField (s.readWord 12) 26 2 = intervalCode m.interval ∧
        s.readWord 13 = 0 ∧ s.readWord 14 = 0 ∧ s.readWord 15 = 0) ∧
    (s.memberCount ≤ 16 → s.log.records.length ≤ 32 →
      let status := s.readWord 10
      let control := s.readWord 11
      getField status 0 3 = linkCode s.membership.link ∧ getField status 4 4 = s.straps.id.val ∧
        getField status 8 1 = flagCode s.ownRank.isSome ∧ getField status 12 4 = s.ownRank.getD 0 ∧
        getField status 16 5 = s.memberCount ∧ getField status 21 1 = modeCode s.membership.mode ∧
        getField status 22 2 = intervalCode s.membership.interval ∧ getField status 24 1 = flagCode s.order.disagree ∧
        getField status 26 6 = s.log.records.length ∧
        getField control 0 1 = flagCode s.cmd.intEnable ∧ getField control 1 1 = 0 ∧
        getField control 2 1 = flagCode s.intLevel ∧ getField control 8 6 = s.log.records.length) ∧
    (∀ (i : Fin 4) (value : Word) (enables : BitVec 4),
      ∃ new : Word,
        (∀ lane < 4, byteOf new lane = if enables.getLsbD lane then byteOf value lane else byteOf s.cmd.words[i] lane) ∧
          exec (.registerWrite (.command i) value enables) s = .next
            { s with cmd := { s.cmd with words := s.cmd.words.set i new } }) ∧
    (∀ (w : PlainWord) (value : Word) (enables : BitVec 4), (∀ i, w ≠ .command i) →
      exec (.registerWrite w value enables) s = .next s) ∧
    (∀ enable, exec (.setInterruptEnable enable) s = .next { s with cmd := { s.cmd with intEnable := enable } }) ∧
    ∀ code, knownCodes.contains code = false →
      exec (.unknownCommand code) s = .next (s.answered code .unknownCommand noWords)

/-! ## Invariants -/

/-- R39, R64, R79, R136, R138, R157: no step takes a queue or a counter past its limit. -/
def Obligations.LimitsKept : Prop :=
  ∀ s t : State, s.WithinLimits → step s = .next t → t.WithinLimits

/-- R24: the order list holds at most sixteen entries and no station ID twice, after every step. -/
def Obligations.OrderListKept : Prop :=
  ∀ s t : State, s.OrderSound → step s = .next t → t.OrderSound

/-- R158, R160: no step leaves a producer waiting while the log has room. -/
def Obligations.NoProducerWaitsWithRoom : Prop :=
  ∀ s t : State, s.NoIdleWaiter → step s = .next t → t.NoIdleWaiter

/-- R1, R4, R6, R20, R21, R36, R40, R41, R45, R52, R98: after every step the bus controller holds what its phase allows,
the one channel ON_BUS is the one whose tenure is driven, and timers, wants, rank and census record fit the link state.
(That the phase held out of step is SILENT, one clause of `State.BusSound`, is the model's choice, log 2.) -/
def Obligations.BusAndMembershipKept : Prop :=
  ∀ s t : State, s.ChannelsSound → s.BusSound → s.MembershipSound → step s = .next t → t.BusSound ∧ t.MembershipSound

/-- R84, R88, R89, R92, R107, R110, R150, R153: after every step each channel holds what its state allows, its byte
counts add up to the segment's length, its read outstanding is the one the port holds, and no channel waits for an
active PACE. -/
def Obligations.ChannelsKept : Prop :=
  ∀ s t : State, s.ChannelsSound → step s = .next t → t.ChannelsSound

/-- R117, R118, R136, R137, R140: after every step every tentative frame belongs to the open vote, behind the released
ones; the writer is at work exactly when the head is released, on a write inside the frame's window; and in every STREAM
window V, C and A are apart by exactly the released and the tentative bytes in the queue. -/
def Obligations.LandingKept : Prop :=
  ∀ s t : State, s.port.Sound → s.LandingSound → step s = .next t → t.LandingSound

/-! ## The host's words -/

/-- R63, R127, Figures 10-10 and 10-11: no bit of a command's words is dropped. Every valid record, for every channel,
and every valid opening, for every window, is read back from the words by which a host gives it. -/
def Obligations.CommandWordsRoundTrip : Prop :=
  (∀ (c : ChannelNo) (r : SegmentRecord), r.valid = true → pushFields (pushWords c r) = some (c, r)) ∧
  ∀ (w : WindowNo) (f : OpenFields), f.valid = true → openFields (openWords w f) = some (w, f)

end
end

