-- ==== Sys2Proof/Laws/State.lean ====
section
/-! SUPPORT. Reading a field after an update: one lemma per field per update, all true by computation, so that no proof
unfolds a record update. -/

namespace Sys2Proof.Machine.State

section

variable (s : State) (x : Straps)

@[simp] theorem setStraps_straps : (s.setStraps x).straps = x := rfl
@[simp] theorem setStraps_pace : (s.setStraps x).pace = s.pace := rfl
@[simp] theorem setStraps_bus : (s.setStraps x).bus = s.bus := rfl
@[simp] theorem setStraps_order : (s.setStraps x).order = s.order := rfl
@[simp] theorem setStraps_membership : (s.setStraps x).membership = s.membership := rfl
@[simp] theorem setStraps_channels : (s.setStraps x).channels = s.channels := rfl
@[simp] theorem setStraps_lastSent : (s.setStraps x).lastSent = s.lastSent := rfl
@[simp] theorem setStraps_landing : (s.setStraps x).landing = s.landing := rfl
@[simp] theorem setStraps_port : (s.setStraps x).port = s.port := rfl
@[simp] theorem setStraps_log : (s.setStraps x).log = s.log := rfl
@[simp] theorem setStraps_cmd : (s.setStraps x).cmd = s.cmd := rfl
@[simp] theorem setStraps_choices : (s.setStraps x).choices = s.choices := rfl
@[simp] theorem setStraps_pending : (s.setStraps x).pending = s.pending := rfl
@[simp] theorem setStraps_setStraps (y : Straps) : (s.setStraps y).setStraps x = s.setStraps x := rfl
@[simp] theorem setStraps_self : s.setStraps s.straps = s := rfl

end

section

variable (s : State) (x : Vector Bool 4)

@[simp] theorem setPace_straps : (s.setPace x).straps = s.straps := rfl
@[simp] theorem setPace_pace : (s.setPace x).pace = x := rfl
@[simp] theorem setPace_bus : (s.setPace x).bus = s.bus := rfl
@[simp] theorem setPace_order : (s.setPace x).order = s.order := rfl
@[simp] theorem setPace_membership : (s.setPace x).membership = s.membership := rfl
@[simp] theorem setPace_channels : (s.setPace x).channels = s.channels := rfl
@[simp] theorem setPace_lastSent : (s.setPace x).lastSent = s.lastSent := rfl
@[simp] theorem setPace_landing : (s.setPace x).landing = s.landing := rfl
@[simp] theorem setPace_port : (s.setPace x).port = s.port := rfl
@[simp] theorem setPace_log : (s.setPace x).log = s.log := rfl
@[simp] theorem setPace_cmd : (s.setPace x).cmd = s.cmd := rfl
@[simp] theorem setPace_choices : (s.setPace x).choices = s.choices := rfl
@[simp] theorem setPace_pending : (s.setPace x).pending = s.pending := rfl
@[simp] theorem setPace_setPace (y : Vector Bool 4) : (s.setPace y).setPace x = s.setPace x := rfl
@[simp] theorem setPace_self : s.setPace s.pace = s := rfl

end

section

variable (s : State) (x : BusController)

@[simp] theorem setBus_straps : (s.setBus x).straps = s.straps := rfl
@[simp] theorem setBus_pace : (s.setBus x).pace = s.pace := rfl
@[simp] theorem setBus_bus : (s.setBus x).bus = x := rfl
@[simp] theorem setBus_order : (s.setBus x).order = s.order := rfl
@[simp] theorem setBus_membership : (s.setBus x).membership = s.membership := rfl
@[simp] theorem setBus_channels : (s.setBus x).channels = s.channels := rfl
@[simp] theorem setBus_lastSent : (s.setBus x).lastSent = s.lastSent := rfl
@[simp] theorem setBus_landing : (s.setBus x).landing = s.landing := rfl
@[simp] theorem setBus_port : (s.setBus x).port = s.port := rfl
@[simp] theorem setBus_log : (s.setBus x).log = s.log := rfl
@[simp] theorem setBus_cmd : (s.setBus x).cmd = s.cmd := rfl
@[simp] theorem setBus_choices : (s.setBus x).choices = s.choices := rfl
@[simp] theorem setBus_pending : (s.setBus x).pending = s.pending := rfl
@[simp] theorem setBus_setBus (y : BusController) : (s.setBus y).setBus x = s.setBus x := rfl
@[simp] theorem setBus_self : s.setBus s.bus = s := rfl

end

section

variable (s : State) (x : OrderUnit)

@[simp] theorem setOrder_straps : (s.setOrder x).straps = s.straps := rfl
@[simp] theorem setOrder_pace : (s.setOrder x).pace = s.pace := rfl
@[simp] theorem setOrder_bus : (s.setOrder x).bus = s.bus := rfl
@[simp] theorem setOrder_order : (s.setOrder x).order = x := rfl
@[simp] theorem setOrder_membership : (s.setOrder x).membership = s.membership := rfl
@[simp] theorem setOrder_channels : (s.setOrder x).channels = s.channels := rfl
@[simp] theorem setOrder_lastSent : (s.setOrder x).lastSent = s.lastSent := rfl
@[simp] theorem setOrder_landing : (s.setOrder x).landing = s.landing := rfl
@[simp] theorem setOrder_port : (s.setOrder x).port = s.port := rfl
@[simp] theorem setOrder_log : (s.setOrder x).log = s.log := rfl
@[simp] theorem setOrder_cmd : (s.setOrder x).cmd = s.cmd := rfl
@[simp] theorem setOrder_choices : (s.setOrder x).choices = s.choices := rfl
@[simp] theorem setOrder_pending : (s.setOrder x).pending = s.pending := rfl
@[simp] theorem setOrder_setOrder (y : OrderUnit) : (s.setOrder y).setOrder x = s.setOrder x := rfl
@[simp] theorem setOrder_self : s.setOrder s.order = s := rfl

end

section

variable (s : State) (x : Membership)

@[simp] theorem setMembership_straps : (s.setMembership x).straps = s.straps := rfl
@[simp] theorem setMembership_pace : (s.setMembership x).pace = s.pace := rfl
@[simp] theorem setMembership_bus : (s.setMembership x).bus = s.bus := rfl
@[simp] theorem setMembership_order : (s.setMembership x).order = s.order := rfl
@[simp] theorem setMembership_membership : (s.setMembership x).membership = x := rfl
@[simp] theorem setMembership_channels : (s.setMembership x).channels = s.channels := rfl
@[simp] theorem setMembership_lastSent : (s.setMembership x).lastSent = s.lastSent := rfl
@[simp] theorem setMembership_landing : (s.setMembership x).landing = s.landing := rfl
@[simp] theorem setMembership_port : (s.setMembership x).port = s.port := rfl
@[simp] theorem setMembership_log : (s.setMembership x).log = s.log := rfl
@[simp] theorem setMembership_cmd : (s.setMembership x).cmd = s.cmd := rfl
@[simp] theorem setMembership_choices : (s.setMembership x).choices = s.choices := rfl
@[simp] theorem setMembership_pending : (s.setMembership x).pending = s.pending := rfl
@[simp] theorem setMembership_setMembership (y : Membership) : (s.setMembership y).setMembership x = s.setMembership x := rfl
@[simp] theorem setMembership_self : s.setMembership s.membership = s := rfl

end

section

variable (s : State) (x : Vector Channel 4)

@[simp] theorem setChannels_straps : (s.setChannels x).straps = s.straps := rfl
@[simp] theorem setChannels_pace : (s.setChannels x).pace = s.pace := rfl
@[simp] theorem setChannels_bus : (s.setChannels x).bus = s.bus := rfl
@[simp] theorem setChannels_order : (s.setChannels x).order = s.order := rfl
@[simp] theorem setChannels_membership : (s.setChannels x).membership = s.membership := rfl
@[simp] theorem setChannels_channels : (s.setChannels x).channels = x := rfl
@[simp] theorem setChannels_lastSent : (s.setChannels x).lastSent = s.lastSent := rfl
@[simp] theorem setChannels_landing : (s.setChannels x).landing = s.landing := rfl
@[simp] theorem setChannels_port : (s.setChannels x).port = s.port := rfl
@[simp] theorem setChannels_log : (s.setChannels x).log = s.log := rfl
@[simp] theorem setChannels_cmd : (s.setChannels x).cmd = s.cmd := rfl
@[simp] theorem setChannels_choices : (s.setChannels x).choices = s.choices := rfl
@[simp] theorem setChannels_pending : (s.setChannels x).pending = s.pending := rfl
@[simp] theorem setChannels_setChannels (y : Vector Channel 4) : (s.setChannels y).setChannels x = s.setChannels x := rfl
@[simp] theorem setChannels_self : s.setChannels s.channels = s := rfl

end

section

variable (s : State) (x : ChannelNo)

@[simp] theorem setLastSent_straps : (s.setLastSent x).straps = s.straps := rfl
@[simp] theorem setLastSent_pace : (s.setLastSent x).pace = s.pace := rfl
@[simp] theorem setLastSent_bus : (s.setLastSent x).bus = s.bus := rfl
@[simp] theorem setLastSent_order : (s.setLastSent x).order = s.order := rfl
@[simp] theorem setLastSent_membership : (s.setLastSent x).membership = s.membership := rfl
@[simp] theorem setLastSent_channels : (s.setLastSent x).channels = s.channels := rfl
@[simp] theorem setLastSent_lastSent : (s.setLastSent x).lastSent = x := rfl
@[simp] theorem setLastSent_landing : (s.setLastSent x).landing = s.landing := rfl
@[simp] theorem setLastSent_port : (s.setLastSent x).port = s.port := rfl
@[simp] theorem setLastSent_log : (s.setLastSent x).log = s.log := rfl
@[simp] theorem setLastSent_cmd : (s.setLastSent x).cmd = s.cmd := rfl
@[simp] theorem setLastSent_choices : (s.setLastSent x).choices = s.choices := rfl
@[simp] theorem setLastSent_pending : (s.setLastSent x).pending = s.pending := rfl
@[simp] theorem setLastSent_setLastSent (y : ChannelNo) : (s.setLastSent y).setLastSent x = s.setLastSent x := rfl
@[simp] theorem setLastSent_self : s.setLastSent s.lastSent = s := rfl

end

section

variable (s : State) (x : Landing)

@[simp] theorem setLanding_straps : (s.setLanding x).straps = s.straps := rfl
@[simp] theorem setLanding_pace : (s.setLanding x).pace = s.pace := rfl
@[simp] theorem setLanding_bus : (s.setLanding x).bus = s.bus := rfl
@[simp] theorem setLanding_order : (s.setLanding x).order = s.order := rfl
@[simp] theorem setLanding_membership : (s.setLanding x).membership = s.membership := rfl
@[simp] theorem setLanding_channels : (s.setLanding x).channels = s.channels := rfl
@[simp] theorem setLanding_lastSent : (s.setLanding x).lastSent = s.lastSent := rfl
@[simp] theorem setLanding_landing : (s.setLanding x).landing = x := rfl
@[simp] theorem setLanding_port : (s.setLanding x).port = s.port := rfl
@[simp] theorem setLanding_log : (s.setLanding x).log = s.log := rfl
@[simp] theorem setLanding_cmd : (s.setLanding x).cmd = s.cmd := rfl
@[simp] theorem setLanding_choices : (s.setLanding x).choices = s.choices := rfl
@[simp] theorem setLanding_pending : (s.setLanding x).pending = s.pending := rfl
@[simp] theorem setLanding_setLanding (y : Landing) : (s.setLanding y).setLanding x = s.setLanding x := rfl
@[simp] theorem setLanding_self : s.setLanding s.landing = s := rfl

end

section

variable (s : State) (x : MemPort)

@[simp] theorem setPort_straps : (s.setPort x).straps = s.straps := rfl
@[simp] theorem setPort_pace : (s.setPort x).pace = s.pace := rfl
@[simp] theorem setPort_bus : (s.setPort x).bus = s.bus := rfl
@[simp] theorem setPort_order : (s.setPort x).order = s.order := rfl
@[simp] theorem setPort_membership : (s.setPort x).membership = s.membership := rfl
@[simp] theorem setPort_channels : (s.setPort x).channels = s.channels := rfl
@[simp] theorem setPort_lastSent : (s.setPort x).lastSent = s.lastSent := rfl
@[simp] theorem setPort_landing : (s.setPort x).landing = s.landing := rfl
@[simp] theorem setPort_port : (s.setPort x).port = x := rfl
@[simp] theorem setPort_log : (s.setPort x).log = s.log := rfl
@[simp] theorem setPort_cmd : (s.setPort x).cmd = s.cmd := rfl
@[simp] theorem setPort_choices : (s.setPort x).choices = s.choices := rfl
@[simp] theorem setPort_pending : (s.setPort x).pending = s.pending := rfl
@[simp] theorem setPort_setPort (y : MemPort) : (s.setPort y).setPort x = s.setPort x := rfl
@[simp] theorem setPort_self : s.setPort s.port = s := rfl

end

section

variable (s : State) (x : CompletionLog)

@[simp] theorem setLog_straps : (s.setLog x).straps = s.straps := rfl
@[simp] theorem setLog_pace : (s.setLog x).pace = s.pace := rfl
@[simp] theorem setLog_bus : (s.setLog x).bus = s.bus := rfl
@[simp] theorem setLog_order : (s.setLog x).order = s.order := rfl
@[simp] theorem setLog_membership : (s.setLog x).membership = s.membership := rfl
@[simp] theorem setLog_channels : (s.setLog x).channels = s.channels := rfl
@[simp] theorem setLog_lastSent : (s.setLog x).lastSent = s.lastSent := rfl
@[simp] theorem setLog_landing : (s.setLog x).landing = s.landing := rfl
@[simp] theorem setLog_port : (s.setLog x).port = s.port := rfl
@[simp] theorem setLog_log : (s.setLog x).log = x := rfl
@[simp] theorem setLog_cmd : (s.setLog x).cmd = s.cmd := rfl
@[simp] theorem setLog_choices : (s.setLog x).choices = s.choices := rfl
@[simp] theorem setLog_pending : (s.setLog x).pending = s.pending := rfl
@[simp] theorem setLog_setLog (y : CompletionLog) : (s.setLog y).setLog x = s.setLog x := rfl
@[simp] theorem setLog_self : s.setLog s.log = s := rfl

end

section

variable (s : State) (x : CommandPort)

@[simp] theorem setCmd_straps : (s.setCmd x).straps = s.straps := rfl
@[simp] theorem setCmd_pace : (s.setCmd x).pace = s.pace := rfl
@[simp] theorem setCmd_bus : (s.setCmd x).bus = s.bus := rfl
@[simp] theorem setCmd_order : (s.setCmd x).order = s.order := rfl
@[simp] theorem setCmd_membership : (s.setCmd x).membership = s.membership := rfl
@[simp] theorem setCmd_channels : (s.setCmd x).channels = s.channels := rfl
@[simp] theorem setCmd_lastSent : (s.setCmd x).lastSent = s.lastSent := rfl
@[simp] theorem setCmd_landing : (s.setCmd x).landing = s.landing := rfl
@[simp] theorem setCmd_port : (s.setCmd x).port = s.port := rfl
@[simp] theorem setCmd_log : (s.setCmd x).log = s.log := rfl
@[simp] theorem setCmd_cmd : (s.setCmd x).cmd = x := rfl
@[simp] theorem setCmd_choices : (s.setCmd x).choices = s.choices := rfl
@[simp] theorem setCmd_pending : (s.setCmd x).pending = s.pending := rfl
@[simp] theorem setCmd_setCmd (y : CommandPort) : (s.setCmd y).setCmd x = s.setCmd x := rfl
@[simp] theorem setCmd_self : s.setCmd s.cmd = s := rfl

end

section

variable (s : State) (x : Nat)

@[simp] theorem setChoices_straps : (s.setChoices x).straps = s.straps := rfl
@[simp] theorem setChoices_pace : (s.setChoices x).pace = s.pace := rfl
@[simp] theorem setChoices_bus : (s.setChoices x).bus = s.bus := rfl
@[simp] theorem setChoices_order : (s.setChoices x).order = s.order := rfl
@[simp] theorem setChoices_membership : (s.setChoices x).membership = s.membership := rfl
@[simp] theorem setChoices_channels : (s.setChoices x).channels = s.channels := rfl
@[simp] theorem setChoices_lastSent : (s.setChoices x).lastSent = s.lastSent := rfl
@[simp] theorem setChoices_landing : (s.setChoices x).landing = s.landing := rfl
@[simp] theorem setChoices_port : (s.setChoices x).port = s.port := rfl
@[simp] theorem setChoices_log : (s.setChoices x).log = s.log := rfl
@[simp] theorem setChoices_cmd : (s.setChoices x).cmd = s.cmd := rfl
@[simp] theorem setChoices_choices : (s.setChoices x).choices = x := rfl
@[simp] theorem setChoices_pending : (s.setChoices x).pending = s.pending := rfl
@[simp] theorem setChoices_setChoices (y : Nat) : (s.setChoices y).setChoices x = s.setChoices x := rfl
@[simp] theorem setChoices_self : s.setChoices s.choices = s := rfl

end

section

variable (s : State) (c : ChannelNo) (x : Channel)

@[simp] theorem setChan_straps : (s.setChan c x).straps = s.straps := rfl
@[simp] theorem setChan_pace : (s.setChan c x).pace = s.pace := rfl
@[simp] theorem setChan_bus : (s.setChan c x).bus = s.bus := rfl
@[simp] theorem setChan_order : (s.setChan c x).order = s.order := rfl
@[simp] theorem setChan_membership : (s.setChan c x).membership = s.membership := rfl
@[simp] theorem setChan_lastSent : (s.setChan c x).lastSent = s.lastSent := rfl
@[simp] theorem setChan_landing : (s.setChan c x).landing = s.landing := rfl
@[simp] theorem setChan_port : (s.setChan c x).port = s.port := rfl
@[simp] theorem setChan_log : (s.setChan c x).log = s.log := rfl
@[simp] theorem setChan_cmd : (s.setChan c x).cmd = s.cmd := rfl
@[simp] theorem setChan_choices : (s.setChan c x).choices = s.choices := rfl
@[simp] theorem setChan_pending : (s.setChan c x).pending = s.pending := rfl

end

section

variable (s : State) (w : WindowNo) (x : Window)

@[simp] theorem setWin_straps : (s.setWin w x).straps = s.straps := rfl
@[simp] theorem setWin_pace : (s.setWin w x).pace = s.pace := rfl
@[simp] theorem setWin_bus : (s.setWin w x).bus = s.bus := rfl
@[simp] theorem setWin_order : (s.setWin w x).order = s.order := rfl
@[simp] theorem setWin_membership : (s.setWin w x).membership = s.membership := rfl
@[simp] theorem setWin_channels : (s.setWin w x).channels = s.channels := rfl
@[simp] theorem setWin_lastSent : (s.setWin w x).lastSent = s.lastSent := rfl
@[simp] theorem setWin_port : (s.setWin w x).port = s.port := rfl
@[simp] theorem setWin_log : (s.setWin w x).log = s.log := rfl
@[simp] theorem setWin_cmd : (s.setWin w x).cmd = s.cmd := rfl
@[simp] theorem setWin_choices : (s.setWin w x).choices = s.choices := rfl
@[simp] theorem setWin_pending : (s.setWin w x).pending = s.pending := rfl

end

section

variable (s : State) (q : List QueuedFrame)

@[simp] theorem setQueue_straps : (s.setQueue q).straps = s.straps := rfl
@[simp] theorem setQueue_pace : (s.setQueue q).pace = s.pace := rfl
@[simp] theorem setQueue_bus : (s.setQueue q).bus = s.bus := rfl
@[simp] theorem setQueue_order : (s.setQueue q).order = s.order := rfl
@[simp] theorem setQueue_membership : (s.setQueue q).membership = s.membership := rfl
@[simp] theorem setQueue_channels : (s.setQueue q).channels = s.channels := rfl
@[simp] theorem setQueue_lastSent : (s.setQueue q).lastSent = s.lastSent := rfl
@[simp] theorem setQueue_port : (s.setQueue q).port = s.port := rfl
@[simp] theorem setQueue_log : (s.setQueue q).log = s.log := rfl
@[simp] theorem setQueue_cmd : (s.setQueue q).cmd = s.cmd := rfl
@[simp] theorem setQueue_choices : (s.setQueue q).choices = s.choices := rfl
@[simp] theorem setQueue_pending : (s.setQueue q).pending = s.pending := rfl

end

/-! ## Channels and windows -/

section

variable (s : State) (c d : ChannelNo) (x y : Channel)

@[simp] theorem chan_setChan_same : (s.setChan c x).chan c = x := by
  simp [State.chan, State.setChan]

theorem chan_setChan_other (h : c ≠ d) : (s.setChan c x).chan d = s.chan d := by
  simp only [State.chan, State.setChan, setChannels_channels, Fin.getElem_fin]
  exact Vector.getElem_set_ne _ _ fun e => h (Fin.ext e)

theorem chan_setChan : (s.setChan c x).chan d = if c = d then x else s.chan d := by
  split
  · rename_i h; subst h; exact chan_setChan_same s c x
  · rename_i h; exact chan_setChan_other s c d x h

@[simp] theorem setChan_setChan : (s.setChan c y).setChan c x = s.setChan c x := by
  simp [State.setChan, State.setChannels]

@[simp] theorem setChan_chan : s.setChan c (s.chan c) = s := by
  simp [State.setChan, State.setChannels, State.chan]

theorem setChan_eq : s.setChan c x = { s with channels := s.channels.set c x } := rfl

end

section

variable (s : State) (w v : WindowNo) (x y : Window) (q : List QueuedFrame)

@[simp] theorem win_setWin_same : (s.setWin w x).win w = x := by
  simp [State.win, State.setWin]

theorem win_setWin_other (h : w ≠ v) : (s.setWin w x).win v = s.win v := by
  simp only [State.win, State.setWin, setLanding_landing, Fin.getElem_fin]
  exact Vector.getElem_set_ne _ _ fun e => h (Fin.ext e)

theorem win_setWin : (s.setWin w x).win v = if w = v then x else s.win v := by
  split
  · rename_i h; subst h; exact win_setWin_same s w x
  · rename_i h; exact win_setWin_other s w v x h

@[simp] theorem setWin_setWin : (s.setWin w y).setWin w x = s.setWin w x := by
  simp [State.setWin, State.setLanding]

@[simp] theorem setWin_win : s.setWin w (s.win w) = s := by
  simp [State.setWin, State.setLanding, State.win]

@[simp] theorem setWin_queue : (s.setWin w x).landing.queue = s.landing.queue := rfl
@[simp] theorem setWin_vote : (s.setWin w x).landing.vote = s.landing.vote := rfl
@[simp] theorem setWin_writer : (s.setWin w x).landing.writer = s.landing.writer := rfl
@[simp] theorem setQueue_queue : (s.setQueue q).landing.queue = q := rfl
@[simp] theorem setQueue_windows : (s.setQueue q).landing.windows = s.landing.windows := rfl
@[simp] theorem setQueue_vote : (s.setQueue q).landing.vote = s.landing.vote := rfl
@[simp] theorem setQueue_writer : (s.setQueue q).landing.writer = s.landing.writer := rfl
@[simp] theorem win_setQueue : (s.setQueue q).win w = s.win w := rfl

end

/-! ## What `chan` and `win` do not see -/

section

variable (s : State) (c : ChannelNo) (w : WindowNo)

@[simp] theorem chan_setStraps (x : Straps) : (s.setStraps x).chan c = s.chan c := rfl
@[simp] theorem win_setStraps (x : Straps) : (s.setStraps x).win w = s.win w := rfl
@[simp] theorem chan_setPace (x : Vector Bool 4) : (s.setPace x).chan c = s.chan c := rfl
@[simp] theorem win_setPace (x : Vector Bool 4) : (s.setPace x).win w = s.win w := rfl
@[simp] theorem chan_setBus (x : BusController) : (s.setBus x).chan c = s.chan c := rfl
@[simp] theorem win_setBus (x : BusController) : (s.setBus x).win w = s.win w := rfl
@[simp] theorem chan_setOrder (x : OrderUnit) : (s.setOrder x).chan c = s.chan c := rfl
@[simp] theorem win_setOrder (x : OrderUnit) : (s.setOrder x).win w = s.win w := rfl
@[simp] theorem chan_setMembership (x : Membership) : (s.setMembership x).chan c = s.chan c := rfl
@[simp] theorem win_setMembership (x : Membership) : (s.setMembership x).win w = s.win w := rfl
@[simp] theorem win_setChannels (x : Vector Channel 4) : (s.setChannels x).win w = s.win w := rfl
@[simp] theorem chan_setLastSent (x : ChannelNo) : (s.setLastSent x).chan c = s.chan c := rfl
@[simp] theorem win_setLastSent (x : ChannelNo) : (s.setLastSent x).win w = s.win w := rfl
@[simp] theorem chan_setLanding (x : Landing) : (s.setLanding x).chan c = s.chan c := rfl
@[simp] theorem chan_setPort (x : MemPort) : (s.setPort x).chan c = s.chan c := rfl
@[simp] theorem win_setPort (x : MemPort) : (s.setPort x).win w = s.win w := rfl
@[simp] theorem chan_setLog (x : CompletionLog) : (s.setLog x).chan c = s.chan c := rfl
@[simp] theorem win_setLog (x : CompletionLog) : (s.setLog x).win w = s.win w := rfl
@[simp] theorem chan_setCmd (x : CommandPort) : (s.setCmd x).chan c = s.chan c := rfl
@[simp] theorem win_setCmd (x : CommandPort) : (s.setCmd x).win w = s.win w := rfl
@[simp] theorem chan_setChoices (x : Nat) : (s.setChoices x).chan c = s.chan c := rfl
@[simp] theorem win_setChoices (x : Nat) : (s.setChoices x).win w = s.win w := rfl
@[simp] theorem chan_setWin (x : Window) : (s.setWin w x).chan c = s.chan c := rfl
@[simp] theorem chan_setQueue (q : List QueuedFrame) : (s.setQueue q).chan c = s.chan c := rfl
@[simp] theorem win_setChan (x : Channel) : (s.setChan c x).win w = s.win w := rfl

end

end Sys2Proof.Machine.State
end

