-- ==== Sys2Proof/Laws/Shapes.lean ====
section
/-! SUPPORT. What each shared operation can touch: it is the state with the named blocks replaced, and no other. -/

namespace Sys2Proof.Machine.State

/-! ## Channels and their reads -/

theorem channel_port_idle (s : State) (c : ChannelNo) : ∃ ch p, s = (s.setChan c ch).setPort p :=
  ⟨s.chan c, s.port, by simp⟩

theorem requestRead_shape (s : State) (c : ChannelNo) : ∃ ch p, s.requestRead c = (s.setChan c ch).setPort p := by
  unfold State.requestRead
  split
  · exact channel_port_idle s c
  · exact ⟨_, _, rfl⟩

theorem readPoint_shape (s : State) (c : ChannelNo) : ∃ ch p, s.readPoint c = (s.setChan c ch).setPort p := by
  unfold State.readPoint
  repeat' split
  all_goals first
    | exact channel_port_idle s c
    | exact requestRead_shape s c
    | exact ⟨_, s.port, rfl⟩

theorem startSegment_shape (s : State) (c : ChannelNo) (r : SegmentRecord) (staged : List SegmentRecord) :
    ∃ ch p, s.startSegment c r staged = (s.setChan c ch).setPort p := by
  unfold State.startSegment
  obtain ⟨ch, p, h⟩ := readPoint_shape
    (s.setChan c { s.chan c with state := .assembling, current := some (segmentOf r), buffer := [], ending := none,
                                 staged := staged }) c
  exact ⟨ch, p, by rw [h]; simp⟩

theorem leaveEnding_shape (s : State) (c : ChannelNo) (e : EndingRecord) :
    ∃ ch p, s.leaveEnding c e = (s.setChan c ch).setPort p := by
  unfold State.leaveEnding
  repeat' split
  all_goals first
    | exact startSegment_shape _ _ _ _
    | exact ⟨_, s.port, rfl⟩

/-! ## The log -/

theorem grantMembership_shape (s : State) : ∃ m l, s.grantMembership = (s.setMembership m).setLog l := by
  unfold State.grantMembership
  split
  · exact ⟨s.membership, s.log, rfl⟩
  · exact ⟨_, _, rfl⟩

theorem grantChannel_shape (s : State) (c : ChannelNo) :
    ∃ ch p l, s.grantChannel c = ((s.setChan c ch).setPort p).setLog l := by
  unfold State.grantChannel
  repeat' split
  · rename_i e _
    obtain ⟨ch, p, h⟩ := leaveEnding_shape (s.place (.channel c) (.segmentEnd e.report)) c e
    exact ⟨ch, p, _, by rw [h]; rfl⟩
  · exact ⟨_, s.port, _, rfl⟩
  · exact ⟨s.chan c, s.port, s.log, by simp⟩

theorem grantWindow_shape (s : State) (w : WindowNo) : ∃ x l, s.grantWindow w = (s.setWin w x).setLog l := by
  unfold State.grantWindow
  split
  · exact ⟨s.win w, s.log, by simp⟩
  · exact ⟨_, _, rfl⟩

/-- R160: with room in the log a producer is granted at once. -/
theorem offer_of_room (s : State) (p : Producer) (h : s.log.records.length < 32) : s.offer p = s.grant p := by
  simp [State.offer, State.logHasRoom, Config.logCapacity, h]

/-- R160: with the log full a producer waits. -/
theorem offer_of_full (s : State) (p : Producer) (h : 32 ≤ s.log.records.length) : s.offer p = s := by
  simp [State.offer, State.logHasRoom, Config.logCapacity, Nat.not_lt.mpr h]

theorem offerMembership_shape (s : State) : ∃ m l, s.offer .membership = (s.setMembership m).setLog l := by
  unfold State.offer
  split
  · exact grantMembership_shape s
  · exact ⟨s.membership, s.log, rfl⟩

theorem offerChannel_shape (s : State) (c : ChannelNo) :
    ∃ ch p l, s.offer (.channel c) = ((s.setChan c ch).setPort p).setLog l := by
  unfold State.offer
  split
  · exact grantChannel_shape s c
  · exact ⟨s.chan c, s.port, s.log, by simp⟩

theorem offerWindow_shape (s : State) (w : WindowNo) : ∃ x l, s.offer (.window w) = (s.setWin w x).setLog l := by
  unfold State.offer
  split
  · exact grantWindow_shape s w
  · exact ⟨s.win w, s.log, by simp⟩

/-! ## Segment ends and outcomes at the sender -/

theorem endSegment_shape (s : State) (c : ChannelNo) (seg : Segment) (status : SegmentStatus) :
    ∃ ch p l, s.endSegment c seg status = ((s.setChan c ch).setPort p).setLog l := by
  unfold State.endSegment
  obtain ⟨ch, p, l, h⟩ := offerChannel_shape
    (s.setChan c
      { s.chan c with
        state := .ending
        current := some { seg with held := 0, unread := seg.unread + seg.held, stopPending := false }
        buffer := []
        ending := some (endingOf c seg status)
        deferred := false }) c
  exact ⟨ch, p, l, by rw [h]; simp⟩

theorem commitAtSender_shape (s : State) (c : ChannelNo) (seg : Segment) :
    ∃ ch p l, s.commitAtSender c seg = ((s.setChan c ch).setPort p).setLog l := by
  unfold State.commitAtSender
  dsimp only
  repeat' split
  · exact endSegment_shape _ _ _ _
  · exact endSegment_shape _ _ _ _
  · obtain ⟨ch, p, h⟩ := readPoint_shape
      (s.setChan c
        { s.chan c with
          state := .assembling
          current := some { seg with committed := seg.committed + seg.held, held := 0, retry := 0 }
          buffer := [] }) c
    exact ⟨ch, p, s.log, by rw [h]; simp [setPort, setLog]⟩

theorem retryAtSender_shape (s : State) (c : ChannelNo) (seg : Segment) :
    ∃ ch p l, s.retryAtSender c seg = ((s.setChan c ch).setPort p).setLog l := by
  unfold State.retryAtSender
  dsimp only
  repeat' split
  · exact endSegment_shape _ _ _ _
  · exact endSegment_shape _ _ _ _
  · exact ⟨_, s.port, s.log, rfl⟩

theorem channelOutcome_shape (s : State) (c : ChannelNo) (o : TenureOutcome) :
    ∃ ch p l, s.channelOutcome c o = ((s.setChan c ch).setPort p).setLog l := by
  unfold State.channelOutcome
  repeat' split
  all_goals first
    | exact commitAtSender_shape _ _ _
    | exact retryAtSender_shape _ _ _
    | exact endSegment_shape _ _ _ _
    | exact ⟨s.chan c, s.port, s.log, by simp⟩

theorem channelWithdrawal_shape (s : State) (c : ChannelNo) :
    ∃ ch p l, s.channelWithdrawal c = ((s.setChan c ch).setPort p).setLog l := by
  unfold State.channelWithdrawal
  repeat' split
  all_goals first
    | exact endSegment_shape _ _ _ _
    | exact ⟨_, s.port, s.log, rfl⟩
    | exact ⟨s.chan c, s.port, s.log, by simp⟩

/-! ## The landing unit -/

theorem drainTest_shape (s : State) (w : WindowNo) : ∃ x, s.drainTest w = s.setWin w x := by
  unfold State.drainTest
  split
  · exact ⟨_, by simp [State.windowEvent]; rfl⟩
  · exact ⟨s.win w, by simp⟩

theorem noteTest_shape (s : State) (f : QueuedFrame) : ∃ x, s.noteTest f = s.setWin f.window x := by
  have h : ∃ x, (if s.makesProgress f then s.windowEvent f.window .progress else s) = s.setWin f.window x := by
    split
    · exact ⟨_, rfl⟩
    · exact ⟨s.win f.window, by simp⟩
  obtain ⟨x, hx⟩ := h
  unfold State.noteTest
  rw [hx]
  dsimp only
  split
  · exact ⟨_, by simp [State.windowEvent]; rfl⟩
  · exact ⟨x, rfl⟩

theorem writerAct_shape (s : State) :
    ∃ writer p, s.writerAct = (s.setLanding { s.landing with writer := writer }).setPort p := by
  unfold State.writerAct
  repeat' split
  · exact ⟨_, _, rfl⟩
  · exact ⟨s.landing.writer, s.port, rfl⟩
  · exact ⟨s.landing.writer, s.port, rfl⟩

theorem landingCommit_shape (s : State) : ∃ l p, s.landingCommit = (s.setLanding l).setPort p := by
  unfold State.landingCommit
  dsimp only
  split
  · obtain ⟨_, p, h⟩ := writerAct_shape
      ((s.setWin (‹TenureVote›).window _).setLanding
        { (s.setWin (‹TenureVote›).window _).landing with
          queue := s.landing.queue.map fun f => { f with released := true }
          vote := none })
    exact ⟨_, p, by rw [h]; rfl⟩
  · obtain ⟨_, p, h⟩ := writerAct_shape
      (s.setLanding
        { s.landing with queue := s.landing.queue.map fun f => { f with released := true }, vote := none })
    exact ⟨_, p, by rw [h]; rfl⟩

theorem landingDrop_shape (s : State) : ∃ l log, s.landingDrop = (s.setLanding l).setLog log := by
  unfold State.landingDrop
  dsimp only
  split
  · rename_i v _
    obtain ⟨x, hx⟩ := drainTest_shape
      ((s.setWin v.window (s.win v.window).setBack).setLanding
        { (s.setWin v.window (s.win v.window).setBack).landing with
          queue := s.landing.queue.filter fun f => f.released
          vote := none }) v.window
    rw [hx]
    obtain ⟨y, l, hy⟩ := offerWindow_shape
      ((((s.setWin v.window (s.win v.window).setBack).setLanding
        { (s.setWin v.window (s.win v.window).setBack).landing with
          queue := s.landing.queue.filter fun f => f.released
          vote := none })).setWin v.window x) v.window
    exact ⟨_, l, by rw [hy]; rfl⟩
  · exact ⟨{ s.landing with queue := s.landing.queue.filter fun f => f.released }, s.log, rfl⟩

theorem landingOutcome_shape (s : State) (o : TenureOutcome) :
    ∃ l p log, s.landingOutcome o = ((s.setLanding l).setPort p).setLog log := by
  unfold State.landingOutcome
  split
  · obtain ⟨l, p, h⟩ := landingCommit_shape s
    exact ⟨l, p, s.log, by rw [h]; rfl⟩
  all_goals
    obtain ⟨l, log, h⟩ := landingDrop_shape s
    exact ⟨l, s.port, log, by rw [h]; rfl⟩

/-! ## The tenure end -/

theorem senderOutcome_shape (s : State) (o : TenureOutcome) :
    ∃ chs p l, s.senderOutcome o = ((s.setChannels chs).setPort p).setLog l := by
  unfold State.senderOutcome
  split
  · rename_i c _
    obtain ⟨ch, p, l, h⟩ := channelOutcome_shape s c o
    exact ⟨_, p, l, h⟩
  all_goals exact ⟨s.channels, s.port, s.log, rfl⟩

theorem takeOutcome_shape (s : State) (o : TenureOutcome) :
    ∃ chs land p l n, s.takeOutcome o = ((((s.setChannels chs).setLanding land).setPort p).setLog l).setChoices n := by
  have both (t : State) : ∃ chs land p l, ((t.senderOutcome o).landingOutcome o) =
      (((t.setChannels chs).setLanding land).setPort p).setLog l := by
    obtain ⟨chs, _, _, h⟩ := senderOutcome_shape t o
    obtain ⟨land, p, l, h'⟩ := landingOutcome_shape (t.senderOutcome o) o
    exact ⟨chs, land, p, l, by rw [h', h]; rfl⟩
  have swapped (t : State) : ∃ chs land p l, ((t.landingOutcome o).senderOutcome o) =
      (((t.setChannels chs).setLanding land).setPort p).setLog l := by
    obtain ⟨land, _, _, h⟩ := landingOutcome_shape t o
    obtain ⟨chs, p, l, h'⟩ := senderOutcome_shape (t.landingOutcome o) o
    exact ⟨chs, land, p, l, by rw [h', h]; rfl⟩
  unfold State.takeOutcome
  dsimp only [State.draw]
  repeat' split
  · obtain ⟨chs, land, p, l, h⟩ := both (s.setChoices (s.choices + 1))
    exact ⟨chs, land, p, l, _, by rw [h]; rfl⟩
  · obtain ⟨chs, land, p, l, h⟩ := swapped (s.setChoices (s.choices + 1))
    exact ⟨chs, land, p, l, _, by rw [h]; rfl⟩
  · obtain ⟨chs, land, p, l, h⟩ := both s
    exact ⟨chs, land, p, l, s.choices, by rw [h]; rfl⟩

/-- R20: what a tenure end can touch; the bus controller, the order list and the tenure counter are given whole. -/
theorem tenureEnd_shape (s : State) (o : TenureOutcome) :
    ∃ chs land p l n,
      s.tenureEnd o =
        ((((((s.rotate.countTenure).setChannels chs).setLanding land).setPort p).setLog l).setChoices n).setBus
          s.bus.endTenure := by
  obtain ⟨chs, land, p, l, n, h⟩ := takeOutcome_shape s.rotate.countTenure o
  exact ⟨chs, land, p, l, n, by unfold State.tenureEnd; dsimp only; rw [h]; rfl⟩

/-! ## The membership unit -/

theorem note_shape (s : State) (n : NoteReason) : ∃ m l, s.note n = (s.setMembership m).setLog l := by
  obtain ⟨m, l, h⟩ := offerMembership_shape (s.setMembership { s.membership with note := some n })
  exact ⟨m, l, h⟩

theorem enterWithNote_shape (s : State) (l : LinkState) (r : Reason) :
    ∃ m log, s.enterWithNote l r = (s.setMembership m).setLog log := by
  obtain ⟨m, log, h⟩ := note_shape (s.enter l (some r)) (.change r)
  exact ⟨m, log, h⟩

theorem tenureCollision_shape (s : State) : ∃ m l, s.tenureCollision = (s.setMembership m).setLog l := by
  unfold State.tenureCollision
  split
  all_goals first
    | exact enterWithNote_shape _ _ _
    | exact ⟨s.membership, s.log, rfl⟩

theorem censusCollision_shape (s : State) : ∃ m l, s.censusCollision = (s.setMembership m).setLog l := by
  unfold State.censusCollision
  dsimp only
  split
  all_goals first
    | exact enterWithNote_shape _ _ _
    | exact ⟨{ s.membership with census := s.membership.census.map fun r => { r with collided := true } }, s.log, rfl⟩

theorem censusAbandoned_shape (s : State) : ∃ m, s.censusAbandoned = s.setMembership m := by
  unfold State.censusAbandoned
  dsimp only
  split
  · exact ⟨_, rfl⟩
  · exact ⟨_, rfl⟩

theorem openCensus_shape (s : State) (h : CensusHeader) : ∃ m, s.openCensus h = s.setMembership m := by
  unfold State.openCensus
  dsimp only
  split
  · exact ⟨_, rfl⟩
  · exact ⟨_, rfl⟩

theorem compareWithReference_shape (s : State) (r : CensusRecord) (reference : List Entry) :
    ∃ m l, s.compareWithReference r reference = (s.setMembership m).setLog l := by
  unfold State.compareWithReference
  repeat' split
  · exact ⟨s.membership, s.log, rfl⟩
  · exact enterWithNote_shape _ _ _
  · exact enterWithNote_shape _ _ _
  all_goals exact ⟨s.membership, s.log, rfl⟩

theorem endListSlots_shape (s : State) (r : CensusRecord) :
    ∃ o m l, s.endListSlots r = ((s.setOrder o).setMembership m).setLog l := by
  unfold State.endListSlots
  dsimp only
  obtain ⟨m, l, h⟩ := compareWithReference_shape
    (s.setMembership { s.membership with census := some { r with reference := some (r.reference.getD []) } })
    { r with reference := some (r.reference.getD []) } (r.reference.getD [])
  rw [h]
  split
  · exact ⟨_, m, l, rfl⟩
  · exact ⟨s.order, m, l, rfl⟩

theorem linkAtCensusEnd_shape (s before : State) (r : CensusRecord) :
    ∃ m l, s.linkAtCensusEnd before r = (s.setMembership m).setLog l := by
  unfold State.linkAtCensusEnd
  repeat' split
  all_goals first
    | exact enterWithNote_shape _ _ _
    | exact note_shape _ _
    | exact ⟨s.membership.enter .listening none, s.log, rfl⟩
    | exact ⟨s.membership, s.log, rfl⟩

theorem censusEnd_shape (s : State) : ∃ o m l, s.censusEnd = ((s.setOrder o).setMembership m).setLog l := by
  unfold State.censusEnd
  split
  · rename_i r _
    obtain ⟨m, l, h⟩ := linkAtCensusEnd_shape (s.installCensus r) s r
    exact ⟨_, m, l, by rw [h]; rfl⟩
  · exact ⟨s.order, s.membership, s.log, rfl⟩

section

variable (m : Membership)

@[simp] theorem activity_link : m.activity.link = m.link := by unfold Membership.activity; split <;> rfl
@[simp] theorem activity_lastReason : m.activity.lastReason = m.lastReason := by
  unfold Membership.activity; split <;> rfl
@[simp] theorem activity_tenureCounter : m.activity.tenureCounter = m.tenureCounter := by
  unfold Membership.activity; split <;> rfl
@[simp] theorem activity_mode : m.activity.mode = m.mode := by unfold Membership.activity; split <;> rfl
@[simp] theorem activity_interval : m.activity.interval = m.interval := by unfold Membership.activity; split <;> rfl
@[simp] theorem activity_idleWant : m.activity.idleWant = m.idleWant := by unfold Membership.activity; split <;> rfl
@[simp] theorem activity_formationWant : m.activity.formationWant = m.formationWant := by
  unfold Membership.activity; split <;> rfl
@[simp] theorem activity_census : m.activity.census = m.census := by unfold Membership.activity; split <;> rfl
@[simp] theorem activity_note : m.activity.note = m.note := by unfold Membership.activity; split <;> rfl

end

/-- R23: an activity report touches a timer of the membership unit and nothing else. -/
theorem activity_eq (s : State) : s.activity = s.setMembership s.membership.activity := rfl

/-- R4: an activity report changes no claim. -/
@[simp] theorem claim_activity (s : State) : s.activity.claim = s.claim := by
  simp [State.claim, State.wantsCensus, State.wantsTenure, State.ownRank, activity_eq]
  rfl

/-! ## Commands -/

/-- R165: a command taken is its owner's act on the state with the code stored, answered. -/
theorem takeCommand_eq (s : State) (code : BitVec 8) (act : State → State × Reply) (h : s.membership.link ≠ .down) :
    s.takeCommand code act =
      .next ((act (s.setCmd { s.cmd with code := code })).1.setReply (act (s.setCmd { s.cmd with code := code })).2) := by
  simp [State.takeCommand, h]

/-- R170: while RESET is asserted a command's write is ignored. -/
theorem takeCommand_down (s : State) (code : BitVec 8) (act : State → State × Reply) (h : s.membership.link = .down) :
    s.takeCommand code act = .next s := by
  simp [State.takeCommand, h]

end Sys2Proof.Machine.State
end

