-- ==== Sys2Proof/Laws/Commands.lean ====
section
/-! SUPPORT. The operations behind the host commands neither read nor write the command port, so they commute with a
write of it: a command's code and reply can be set before or after its effect. -/

namespace Sys2Proof.Machine.State

variable (s : State) (x : CommandPort)

@[simp] theorem setCmd_chan (c : ChannelNo) : (s.setCmd x).chan c = s.chan c := rfl

@[simp] theorem setCmd_win (w : WindowNo) : (s.setCmd x).win w = s.win w := rfl

theorem setChan_setCmd (c : ChannelNo) (ch : Channel) : (s.setCmd x).setChan c ch = (s.setChan c ch).setCmd x := rfl

theorem setWin_setCmd (w : WindowNo) (y : Window) : (s.setCmd x).setWin w y = (s.setWin w y).setCmd x := rfl

theorem requestRead_setCmd (c : ChannelNo) : (s.setCmd x).requestRead c = (s.requestRead c).setCmd x := by
  unfold State.requestRead
  rw [setCmd_chan]
  cases (s.chan c).current <;> rfl

theorem readPoint_setCmd (c : ChannelNo) : (s.setCmd x).readPoint c = (s.readPoint c).setCmd x := by
  unfold State.readPoint
  rw [setCmd_chan, setCmd_pace]
  cases (s.chan c).current with
  | none => rfl
  | some seg =>
    by_cases h : (s.chan c).readOutstanding = true
    · simp only [h, if_true]
      rfl
    · simp only [h]
      cases seg.record.pacing <;> cases s.pace[c]
      · exact s.requestRead_setCmd x c
      · exact s.requestRead_setCmd x c
      · by_cases hb : (s.chan c).buffer.isEmpty = true
        · simp only [hb, if_true]
          rfl
        · simp only [hb]
          rfl
      · exact s.requestRead_setCmd x c

theorem startSegment_setCmd (c : ChannelNo) (r : SegmentRecord) (staged : List SegmentRecord) :
    (s.setCmd x).startSegment c r staged = (s.startSegment c r staged).setCmd x :=
  readPoint_setCmd (s.setChan c _) x c

theorem leaveEnding_setCmd (c : ChannelNo) (e : EndingRecord) :
    (s.setCmd x).leaveEnding c e = (s.leaveEnding c e).setCmd x := by
  unfold State.leaveEnding
  rw [setCmd_chan]
  cases (s.chan c).current with
  | none => rfl
  | some seg =>
    by_cases h : e.report.status = .done ∧ e.stopTaken = false
    · simp only [h, and_self, if_true]
      cases (s.chan c).staged <;> cases seg.record.repeats <;> first | exact s.startSegment_setCmd x c _ _ | rfl
    · simp only [h, if_false]
      rfl

theorem grantMembership_setCmd : (s.setCmd x).grantMembership = s.grantMembership.setCmd x := by
  unfold State.grantMembership
  rw [setCmd_membership]
  cases s.membership.note <;> rfl

theorem grantChannel_setCmd (c : ChannelNo) : (s.setCmd x).grantChannel c = (s.grantChannel c).setCmd x := by
  unfold State.grantChannel
  rw [setCmd_chan]
  cases (s.chan c).ending with
  | some e => exact leaveEnding_setCmd (s.place _ _) x c e
  | none =>
    by_cases h : 0 < (s.chan c).flushCount
    · simp only [h, if_true]
      rfl
    · simp only [h, if_false]

theorem grantWindow_setCmd (w : WindowNo) : (s.setCmd x).grantWindow w = (s.grantWindow w).setCmd x := by
  unfold State.grantWindow
  rw [setCmd_win]
  cases (s.win w).note <;> rfl

theorem grant_setCmd (p : Producer) : (s.setCmd x).grant p = (s.grant p).setCmd x := by
  cases p with
  | membership => exact s.grantMembership_setCmd x
  | channel c => exact s.grantChannel_setCmd x c
  | window w => exact s.grantWindow_setCmd x w

theorem offer_setCmd (p : Producer) : (s.setCmd x).offer p = (s.offer p).setCmd x := by
  rcases Nat.lt_or_ge s.log.records.length 32 with h | h
  · rw [offer_of_room _ _ h, offer_of_room (s.setCmd x) _ h, grant_setCmd]
  · rw [offer_of_full _ _ h, offer_of_full (s.setCmd x) _ h]

theorem endSegment_setCmd (c : ChannelNo) (seg : Segment) (status : SegmentStatus) :
    (s.setCmd x).endSegment c seg status = (s.endSegment c seg status).setCmd x :=
  offer_setCmd (s.setChan c _) x (.channel c)

theorem drainTest_setCmd (w : WindowNo) : (s.setCmd x).drainTest w = (s.drainTest w).setCmd x := by
  unfold State.drainTest
  rw [setCmd_win]
  by_cases h : (s.win w).state = .closing ∧ s.hasQueued w = false
  · rw [if_pos h, if_pos (show _ ∧ (s.setCmd x).hasQueued w = false from h)]
    rfl
  · rw [if_neg h, if_neg (show ¬ (_ ∧ (s.setCmd x).hasQueued w = false) from h)]

/-! ## The command port after these operations -/

theorem startSegment_cmd (c : ChannelNo) (r : SegmentRecord) (staged : List SegmentRecord) :
    (s.startSegment c r staged).cmd = s.cmd := by
  obtain ⟨_, _, h⟩ := startSegment_shape s c r staged
  rw [h]
  rfl

theorem endSegment_cmd (c : ChannelNo) (seg : Segment) (status : SegmentStatus) :
    (s.endSegment c seg status).cmd = s.cmd := by
  obtain ⟨_, _, _, h⟩ := endSegment_shape s c seg status
  rw [h]
  rfl

theorem offer_cmd (p : Producer) : (s.offer p).cmd = s.cmd := by
  cases p with
  | membership =>
    obtain ⟨_, _, h⟩ := offerMembership_shape s
    rw [h]
    rfl
  | channel c =>
    obtain ⟨_, _, _, h⟩ := offerChannel_shape s c
    rw [h]
    rfl
  | window w =>
    obtain ⟨_, _, h⟩ := offerWindow_shape s w
    rw [h]
    rfl

/-! ## A command answered -/

/-- A host command whose owner makes `t` of the state, whatever the command port holds, and gives the reply `r`, answers
`t` with the code, result and result words in the port (R165). -/
theorem takeCommand_answered (code : BitVec 8) (act : State → State × Reply) (t : State) (r : Reply)
    (hup : s.membership.link ≠ .down)
    (hact : act (s.setCmd { s.cmd with code := code }) = (t.setCmd { s.cmd with code := code }, r))
    (hcmd : t.cmd = s.cmd) :
    s.takeCommand code act = .next (t.answered code r.code r.words) := by
  rw [takeCommand_eq _ _ _ hup, hact]
  simp only [State.setReply, State.answered, State.setCmd, hcmd]

end Sys2Proof.Machine.State
end

