-- ==== Sys2Proof/Laws/PerInstr.lean ====
section
/-! SUPPORT. One lemma per command: a command that is the write of a code is the one its code names (Figure 10-9). -/

namespace Sys2Proof.Laws.CommandCode

/-- A well-formed command that is the write of a command code is the command which that code names, at some levels of the
strap pins; so no two host commands share a code. -/
def Statement (i : Instr) : Prop :=
  i.wellFormed = true → ∀ code, i.commandCode = some code → ∃ pins, commandOfCode pins code = i

/-- A command that is no write of a code. -/
theorem of_no_code {i : Instr} (h : i.commandCode = none) : Statement i := by
  intro _ code hc
  rw [h] at hc
  cases hc

/-- A command whose code is known. -/
theorem of_code {i : Instr} {code : BitVec 8} {pins : StrapPins} (h : i.commandCode = some code)
    (hi : commandOfCode pins code = i) : Statement i := by
  intro _ c hc
  rw [h] at hc
  cases hc
  exact ⟨pins, hi⟩

/-- Any levels of the strap pins. -/
def allLow : StrapPins := ⟨false, false, false, false, false, false, false, false⟩

theorem startMark : Statement .startMark := of_no_code rfl

theorem contestLoss : Statement .contestLoss := of_no_code rfl

theorem claimCodeEnd (code : BitVec 5) : Statement (.claimCodeEnd code) := of_no_code rfl

theorem contestSilence : Statement .contestSilence := of_no_code rfl

theorem stepInSilence : Statement .stepInSilence := of_no_code rfl

theorem tenureHeader (h : WireHeader) : Statement (.tenureHeader h) := of_no_code rfl

theorem frame (f : WireFrame) : Statement (.frame f) := of_no_code rfl

theorem verdictMark : Statement .verdictMark := of_no_code rfl

theorem verdictSample (lines : Lines) : Statement (.verdictSample lines) := of_no_code rfl

theorem truncation : Statement .truncation := of_no_code rfl

theorem echoWithdrawal : Statement .echoWithdrawal := of_no_code rfl

theorem echoMismatchTenure : Statement .echoMismatchTenure := of_no_code rfl

theorem echoMismatchCensus : Statement .echoMismatchCensus := of_no_code rfl

theorem censusHeader (h : WireCensusHeader) : Statement (.censusHeader h) := of_no_code rfl

theorem censusSlotTime : Statement .censusSlotTime := of_no_code rfl

theorem slotMark : Statement .slotMark := of_no_code rfl

theorem listSlotAnswer (a : WireListAnswer) : Statement (.listSlotAnswer a) := of_no_code rfl

theorem joinSlotAnswer (a : WireJoinAnswer) : Statement (.joinSlotAnswer a) := of_no_code rfl

theorem endMark : Statement .endMark := of_no_code rfl

theorem censusAbandonSilence : Statement .censusAbandonSilence := of_no_code rfl

theorem idleTimerExpiry : Statement .idleTimerExpiry := of_no_code rfl

theorem formationTimerExpiry : Statement .formationTimerExpiry := of_no_code rfl

theorem resetAsserted : Statement .resetAsserted := of_no_code rfl

theorem resetReleased (pins : StrapPins) : Statement (.resetReleased pins) := of_no_code rfl

theorem paceActive (c : ChannelNo) (level : Bool) : Statement (.paceActive c level) := of_no_code rfl

theorem frameReadCompletion (words : List Word) : Statement (.frameReadCompletion words) := of_no_code rfl

theorem readFault : Statement .readFault := of_no_code rfl

theorem staleReadCompletion : Statement .staleReadCompletion := of_no_code rfl

theorem landingWriteCompletion : Statement .landingWriteCompletion := of_no_code rfl

theorem splitFirstPartCompletion : Statement .splitFirstPartCompletion := of_no_code rfl

theorem writeFault : Statement .writeFault := of_no_code rfl

theorem orphanCompletion : Statement .orphanCompletion := of_no_code rfl

theorem push : Statement .push := of_code (pins := allLow) rfl rfl

theorem stop : Statement .stop := of_code (pins := allLow) rfl rfl

theorem resume : Statement .resume := of_code (pins := allLow) rfl rfl

theorem flush : Statement .flush := of_code (pins := allLow) rfl rfl

theorem queryChannel : Statement .queryChannel := of_code (pins := allLow) rfl rfl

theorem openWindow : Statement .openWindow := of_code (pins := allLow) rfl rfl

theorem closeWindow : Statement .closeWindow := of_code (pins := allLow) rfl rfl

theorem consume : Statement .consume := of_code (pins := allLow) rfl rfl

theorem rearm : Statement .rearm := of_code (pins := allLow) rfl rfl

theorem queryWindow : Statement .queryWindow := of_code (pins := allLow) rfl rfl

theorem leave : Statement .leave := of_code (pins := allLow) rfl rfl

theorem join : Statement .join := of_code (pins := allLow) rfl rfl

theorem stationReset (pins : StrapPins) : Statement (.stationReset pins) := of_code (pins := pins) rfl rfl

theorem unknownCommand (code : BitVec 8) : Statement (.unknownCommand code) := by
  intro hw c hc
  cases hc
  refine ⟨allLow, ?_⟩
  have h : ∀ k : BitVec 8, knownCodes.contains k = false → commandOfCode allLow k = .unknownCommand k := by decide +kernel
  exact h code (by simpa [Instr.wellFormed] using hw)

theorem pop (enable : Bool) : Statement (.pop enable) := of_no_code rfl

theorem setInterruptEnable (enable : Bool) : Statement (.setInterruptEnable enable) := of_no_code rfl

theorem registerWrite (w : PlainWord) (value : Word) (enables : BitVec 4) : Statement (.registerWrite w value enables) := of_no_code rfl

end Sys2Proof.Laws.CommandCode
end

