-- ==== Sys2Proof/Laws/Words.lean ====
section
/-! SUPPORT. Fields of words: what `getField` reads from a word packed by `putField` and `|||`, and what the checks of the
fields of PUSH and OPEN ask. -/

namespace Sys2Proof.Machine

theorem getField_lt (w : Word) (lo n : Nat) : getField w lo n < 2 ^ n := Nat.mod_lt _ (Nat.two_pow_pos n)

theorem getField_zero (lo n : Nat) : getField 0 lo n = 0 := by simp [getField]

theorem getField_or (a b : Word) (lo n : Nat) : getField (a ||| b) lo n = getField a lo n ||| getField b lo n := by
  simp only [getField, BitVec.toNat_or, Nat.shiftRight_or_distrib, Nat.or_mod_two_pow]

/-- A field reads the value put at its place. -/
theorem getField_putField_self {lo n v : Nat} (fits : v < 2 ^ n) (inside : lo + n ≤ 32) :
    getField (putField lo v) lo n = v := by
  have small : v <<< lo < 2 ^ 32 := by
    rw [Nat.shiftLeft_eq]
    calc v * 2 ^ lo < 2 ^ n * 2 ^ lo := Nat.mul_lt_mul_of_pos_right fits (Nat.two_pow_pos lo)
      _ = 2 ^ (n + lo) := (Nat.pow_add 2 n lo).symm
      _ ≤ 2 ^ 32 := Nat.pow_le_pow_right (by decide) (by omega)
  rw [getField, putField, BitVec.toNat_ofNat, Nat.mod_eq_of_lt small, Nat.shiftLeft_shiftRight, Nat.mod_eq_of_lt fits]

/-- A field reads 0 of a value that ends below it. -/
theorem getField_putField_above {lo n at' m v : Nat} (fits : v < 2 ^ m) (ends : at' + m ≤ lo) :
    getField (putField at' v) lo n = 0 := by
  have small : v <<< at' < 2 ^ lo := by
    rw [Nat.shiftLeft_eq]
    calc v * 2 ^ at' < 2 ^ m * 2 ^ at' := Nat.mul_lt_mul_of_pos_right fits (Nat.two_pow_pos at')
      _ = 2 ^ (m + at') := (Nat.pow_add 2 m at').symm
      _ ≤ 2 ^ lo := Nat.pow_le_pow_right (by decide) (by omega)
  rw [getField, putField, BitVec.toNat_ofNat, Nat.shiftRight_eq_div_pow,
    Nat.div_eq_of_lt (Nat.lt_of_le_of_lt (Nat.mod_le _ _) small), Nat.zero_mod]

/-- A field reads 0 of a value that begins above it. -/
theorem getField_putField_below {lo n at' v : Nat} (above : lo + n ≤ at') : getField (putField at' v) lo n = 0 := by
  apply Nat.eq_of_testBit_eq
  intro i
  simp only [getField, putField, BitVec.toNat_ofNat, Nat.testBit_mod_two_pow, Nat.testBit_shiftRight,
    Nat.testBit_shiftLeft, Nat.zero_testBit]
  by_cases h : i < n
  · have : ¬ (at' ≤ lo + i) := by omega
    simp [this]
  · simp [h]

/-- A field of one bit. -/
theorem getField_bit (w : Word) (i : Nat) : getField w i 1 = 1 ↔ w.getLsbD i = true := by
  simp [getField, BitVec.getLsbD, Nat.testBit, Nat.shiftRight_eq_div_pow]

/-! ## The numbers and checks of the commands -/

theorem channelField_none (w : Word) : channelField w = none ↔ 3 < w.toNat % 256 := by
  unfold channelField getField
  simp only [Nat.shiftRight_zero]
  split <;> simp <;> omega

theorem windowField_none (w : Word) : windowField w = none ↔ 15 < w.toNat % 256 := by
  unfold windowField getField
  simp only [Nat.shiftRight_zero]
  split <;> simp <;> omega

/-- R63: what a segment record must satisfy. -/
theorem SegmentRecord.valid_iff (r : SegmentRecord) :
    r.valid = true ↔
      1 ≤ r.length ∧ r.length ≤ 1048576 ∧ 1 ≤ r.tenureSize ∧ r.tenureSize ≤ 8 ∧ r.source.toNat + r.length ≤ 2 ^ 32 ∧
        ∀ o, r.offset = some o → o + r.length ≤ 1048576 := by
  obtain ⟨source, length, dest, window, offset, tenureSize, pacing, repeats, notify, tag⟩ := r
  cases offset <;> simp only [SegmentRecord.valid, Bool.and_eq_true, decide_eq_true_eq, and_assoc] <;>
    simp [Config.maxSpan, Config.addressSpace]

/-- R127: what the fields of an OPEN must satisfy. -/
theorem OpenFields.valid_iff (f : OpenFields) :
    f.valid = true ↔
      f.base.toNat % 4 = 0 ∧ 1 ≤ f.size ∧ f.size ≤ 1048576 ∧ f.base.toNat + f.size ≤ 2 ^ 32 ∧ f.filter ≠ 0 := by
  simp only [OpenFields.valid, Bool.and_eq_true, decide_eq_true_eq, and_assoc]
  simp [Config.maxSpan, Config.addressSpace]

end Sys2Proof.Machine
end

