-- ==== Sys2Proof/Tests/Slice0.lean ====
section
/-! SUPPORT. The model's own tests: the well-formedness check, one small step of every command, and for each statement of
the obligations with hypotheses (and each of its cases) a concrete state and operands that meet them: `test_hyp_<Name>`. -/

namespace Sys2Proof.Tests

open Sys2Proof.Machine

set_option Elab.async false

/-! ## Well-formedness: what the check refuses -/

theorem test_illFormed_frame_without_payload : Instr.wellFormed (.frame ⟨0, none, true, [], 0⟩) = false := by decide

theorem test_illFormed_frame_of_65_bytes :
    Instr.wellFormed (.frame ⟨0, none, true, List.replicate 65 0, 0⟩) = false := by decide

theorem test_wellFormed_frame_of_64_bytes :
    Instr.wellFormed (.frame ⟨0, none, true, List.replicate 64 0, 0⟩) = true := by decide

theorem test_illFormed_answer_of_32_entries :
    Instr.wellFormed (.listSlotAnswer ⟨0, false, List.replicate 32 ⟨0, 0⟩, 0⟩) = false := by decide

theorem test_illFormed_read_of_no_word : Instr.wellFormed (.frameReadCompletion []) = false := by decide

theorem test_illFormed_read_of_18_words :
    Instr.wellFormed (.frameReadCompletion (List.replicate 18 0)) = false := by decide

theorem test_illFormed_known_code_as_unknown : Instr.wellFormed (.unknownCommand 0x1F) = false := by decide

theorem test_wellFormed_unknown_code : Instr.wellFormed (.unknownCommand 0x06) = true := by decide

/-! ## Codes and words -/

/-- R8: the check value of this polynomial and start value over the bytes "123456789". -/
theorem test_check16 :
    check16 (payloadBits [0x31, 0x32, 0x33, 0x34, 0x35, 0x36, 0x37, 0x38, 0x39]) = 0x29B1 := by decide +kernel

/-- Figures 10-6, 10-8 and 10-9: writes of the register window. -/
theorem test_commandOfWrite (pins : StrapPins) :
    commandOfWrite pins 4 0x00000005 0xF = some .queryChannel ∧ commandOfWrite pins 4 0x0000001F 0x1 = some (.stationReset pins) ∧
      commandOfWrite pins 4 0x00000005 0x2 = some (.unknownCommand 0) ∧ commandOfWrite pins 4 0x00000005 0 = none ∧
      commandOfWrite pins 11 0x00000003 0xF = some (.pop true) ∧
      commandOfWrite pins 11 0x00000001 0x1 = some (.setInterruptEnable true) ∧
      commandOfWrite pins 2 0x12345678 0x4 = some (.registerWrite (.command 2) 0x12345678 0x4) := by
  refine ⟨rfl, rfl, rfl, rfl, rfl, rfl, rfl⟩

/-- No row of the table gives bits. -/
theorem test_decodeTableWord (nbits w : Nat) : decodeTableWord nbits w = none := rfl

/-- R26: rank 3 is the claim code 1 0011; a census claim of station 9 is 0 1001. -/
theorem test_claimCode : claimCode 9 (.tenure 3) = 0b10011 ∧ claimCode 9 (.census false) = 0b01001 := by decide

/-! ## Small states -/

/-- A step that goes on to a state that meets a test. -/
def goesOn (o : Answered) (p : State → Bool) : Bool :=
  match o with
  | .next t => p t
  | .fault _ => false
  | .refused _ => false

/-- A step that stops with a fault. -/
def stops (o : Answered) (f : Fault) : Bool :=
  match o with
  | .next _ => false
  | .fault g => g == f
  | .refused _ => false

/-- Station 3 in step, second in the list of stations 5, 3 and 9, in a link state. -/
def station (link : LinkState) : State :=
  { State.reset with
    straps := { id := 3, mode := .rotate, interval := .t64, autoJoin := true }
    bus := { BusController.reset with inStep := true }
    order := { list := [⟨5, 0⟩, ⟨3, 1⟩, ⟨9, 0⟩], disagree := false }
    membership := { Membership.reset with link := link } }

/-- The member in a phase. -/
def inPhase (phase : Phase) : State := (station .member).setBus { (station .member).bus with phase := phase }

/-- A segment record of `n` bytes at address hex 1001 for window 2 of station 5. -/
def record (n : Nat) (pacing : Pacing) (repeats : Bool) : SegmentRecord :=
  { source := 0x1001, length := n, dest := .station 5, window := 2, offset := none, tenureSize := 2, pacing := pacing,
    repeats := repeats, notify := false, tag := 7 }

/-- A current segment with its byte counts. -/
def segment (r : SegmentRecord) (committed held unread retry : Nat) (stop : Bool) : Segment :=
  { record := r, pointer := 0x1001 + committed + held, committed := committed, held := held, unread := unread,
    retry := retry, stopPending := stop }

/-- A held frame of `n` bytes. -/
def heldFrame (n : Nat) (last : Bool) : HeldFrame := { offset := none, last := last, payload := List.replicate n 0xAB }

/-- A channel in a state with a segment. -/
def channel (state : ChannelState) (seg : Segment) : Channel :=
  { Channel.reset with state := state, current := some seg }

/-- TC1 in a state with a segment and one held frame, its tenure on the bus if it is ON_BUS. -/
def sending (state : ChannelState) (seg : Segment) : State :=
  let s := (inPhase .tenure).setChan 1 { channel state seg with buffer := [heldFrame seg.held (seg.unread == 0)] }
  s.setBus { s.bus with winningCode := some 0b10001, drive := if state = .onBus then .tenure 1 else .nothing }

/-- A good header: station 5, two frames, to this station's window 2. -/
def header : Header := { sender := 5, channel := 0, frameCount := 2, dest := .station 3, window := 2 }

/-- An open window. -/
def window (kind : WindowKind) (size : Nat) : Window :=
  { Window.reset with state := .opened, kind := kind, base := 0x2000, size := size, filter := 0xFFFF }

/-- A vote for window 2. -/
def vote : TenureVote := { window := 2, sender := 5, running := .accept, accepted := 0, tenure := 1 }

/-- This station as destination of the tenure of `header`, with window 2. -/
def landing (x : Window) : State :=
  let s := ((inPhase .tenure).setWin 2 x)
  (s.setBus { s.bus with header := .good header, destination := true, winningCode := some 0b10000 }).setLanding
    { s.landing with vote := some vote }

/-- A frame in the landing queue. -/
def queued (n ringPos : Nat) (released : Bool) : QueuedFrame :=
  { window := 2, sender := 5, target := 0, ringPos := ringPos, last := false, payload := List.replicate n 0xCD,
    tenure := 1, released := released }

/-- The writer at work on the head of the queue, its write in flight. -/
def writing (x : Window) (queue : List QueuedFrame) (writer : Writer) (w : WriteRequest) : State :=
  let s := (inPhase .silent).setWin 2 x
  (s.setLanding { s.landing with queue := queue, writer := writer }).setPort
    { s.port with inFlight := some (.write w) }

/-- A census record of `n` list slots. -/
def censusRecord (n : Nat) : CensusRecord :=
  { header := { claimant := 5, slots := n, mode := .rotate, interval := .t256 }, reference := none,
    answers := List.replicate n none, joiners := [], diverged := false, collided := false }

/-- A station in a census, `marks` slot marks heard. -/
def census (link : LinkState) (r : Option CensusRecord) (marks : Nat) : State :=
  let s := station link
  (s.setBus { s.bus with phase := .census, censusHeader := .good, slotMarks := marks }).setMembership
    { s.membership with census := r }

/-- A full log. -/
def fullLog (s : State) : State := s.setLog { s.log with records := List.replicate 32 (.flushed 0 1) }

/-- A channel's read in flight. -/
def reading (ch : Channel) : State :=
  let s := (inPhase .silent).setChan 1 { ch with readOutstanding := true }
  s.setPort { s.port with inFlight := some (.read 1 { addr := 0x1001, count := 6 }), lastServed := 1 }

/-- The strap pins of station 9, FIXED, 256 tenures, joining by itself or not. -/
def pins (autoJ : Bool) : StrapPins := ⟨true, false, false, true, true, false, true, autoJ⟩

/-- A station with command words. -/
def commanded (s : State) (words : Vector Word 4) : State := s.setCmd { s.cmd with words := words }

/-! ## Hypotheses met: the machine, contests -/

theorem test_hyp_StepTakesTheFrontCommand :
    exec .startMark State.reset = .next State.reset ∧ State.reset.pending = [] := ⟨rfl, rfl⟩

theorem test_hyp_StartMarkOpensContest :
    ((inPhase .silent).Hears ∧ (inPhase .silent).bus.phase = .silent) ∧
      ((inPhase .contest).Hears ∧ (inPhase .contest).bus.phase = .contest) ∧
      ((inPhase .tenure).Hears ∧ (inPhase .tenure).bus.phase = .tenure) ∧
      ((inPhase .census).Hears ∧ (inPhase .census).bus.phase = .census) := by decide

theorem test_hyp_SteppingInAndIgnoredArrivals :
    let deaf := (station .member).setBus BusController.reset
    (deaf.bus.inStep = false ∧ deaf.membership.link ≠ .down ∧ deaf.follows = false) ∧
      State.reset.follows = false ∧ State.reset.membership.link = .down ∧
      WireFrame.wellFormed ⟨0, none, true, [1], 0⟩ = true ∧
      WireListAnswer.wellFormed ⟨3, false, [], 0⟩ = true ∧ (inPhase .silent).bus.phase ≠ .tenure ∧
      (inPhase .census).bus.phase ≠ .tenure ∧ (inPhase .tenure).bus.phase ≠ .census := by decide

/-- At the interval with rank 0, and 16 tenures past it with another rank. -/
theorem test_hyp_ClaimOfAContender :
    let counted (s : State) (n : Nat) : State := s.setMembership { s.membership with tenureCounter := n }
    let first : State := (counted (station .member) 64).setOrder ⟨[⟨3, 0⟩], false⟩
    let ready : State := (station .member).setChan 2 { Channel.reset with state := .ready }
    first.wantsCensus = true ∧ (counted (station .leaving) 80).wantsCensus = true ∧
      (counted (station .member) 79).wantsCensus = false ∧
      (station .listening).membership.link = .listening ∧ (station .joining).membership.link = .joining ∧
      (station .out).membership.link = .out ∧ State.reset.membership.link = .down ∧
      (ready.wantsCensus = false ∧ ready.wantsTenure = true) ∧
      ((station .member).wantsCensus = false ∧ (station .member).wantsTenure = false) ∧
      (claimCode 3 (.tenure 0)).toNat = 16 ∧ (claimCode 3 (.tenure 15)).toNat = 31 := by decide

/-- A contender with TC1 READY, in a contest; and one with nothing READY. -/
def contender (c : Claim) (state : ChannelState) : State :=
  let s := (inPhase .contest).setChan 1 (channel state (segment (record 64 .free false) 0 64 0 0 false))
  s.setBus { s.bus with drive := .claim c }

theorem test_hyp_ContestLossChangesNothingElse :
    (contender (.tenure 1) .ready).bus.phase = .contest ∧ (contender (.tenure 1) .ready).bus.drive = .claim (.tenure 1) ∧
      goesOn (exec .contestLoss (contender (.tenure 1) .ready)) (fun t => t.bus.drive == .nothing) = true ∧
      stops (exec .contestLoss (inPhase .contest)) .notDriving = true := by decide +kernel

theorem test_hyp_ClaimCodeEnd :
    let s := contender (.tenure 1) .ready
    let bare := contender (.tenure 15) .halted
    let claimant := contender (.census false) .ready
    (s.Hears ∧ s.bus.phase = .contest ∧ s.claimCodeSent ≠ some 0b10000) ∧
      (s.bus.drive = .claim (.tenure 1) ∧ (0b10001#5).toNat = 16 + 1 ∧ s.turnPick = some 1) ∧
      (bare.Hears ∧ bare.bus.phase = .contest ∧ bare.bus.drive = .claim (.tenure 15) ∧ (0b11111#5).toNat = 16 + 15 ∧
        bare.turnPick = none) ∧
      (claimant.Hears ∧ claimant.bus.phase = .contest ∧ claimant.bus.drive = .claim (.census false) ∧
        (0b00011#5).toNat = claimant.straps.id.val) := by decide

/-- A station that begins a start mark, and one that wants nothing. -/
theorem test_hyp_ClaimCodeEnd_startMark :
    ((inPhase .silent).setChan 2 { Channel.reset with state := .ready }).beginsStartMark = true ∧
      (inPhase .silent).beginsStartMark = false := by decide

/-- The sender of a tenure of TC1: one and eight frames, with no offset, the least and the greatest, to a station and to
ALL; and the header and frames it sends. -/
theorem test_hyp_ClaimCodeEnd_sent :
    let seg (dest : Destination) : Segment :=
      segment { record 512 .free false with dest := dest, offset := some 0 } 0 64 448 0 false
    let s (dest : Destination) (buffer : List HeldFrame) : State :=
      let t := (inPhase .tenure).setChan 1 { channel .onBus (seg dest) with buffer := buffer }
      t.setBus { t.bus with drive := .tenure 1 }
    let one : List HeldFrame := [{ offset := some 1048575, last := true, payload := [0x5A] }]
    let eight : List HeldFrame := { offset := some 0, last := false, payload := [1] } :: List.replicate 7 (heldFrame 1 false)
    (∀ dest ∈ [Destination.station 15, .all], ∀ buffer ∈ [one, eight],
        (s dest buffer).bus.drive = .tenure 1 ∧ ((s dest buffer).chan 1).current = some (seg dest) ∧
          ((s dest buffer).chan 1).buffer = buffer ∧ 1 ≤ buffer.length ∧ buffer.length ≤ 8) ∧
      (s .all eight).headerSent.any (fun w => goodHeader w == some ⟨3, 1, 8, .all, 2⟩) = true ∧
      (s (.station 15) one).headerSent.any (fun w => goodHeader w == some ⟨3, 1, 1, .station 15, 2⟩) = true ∧
      (s .all one).framesSent.map (fun w => (w.index, w.offset, w.last, w.payload)) = [(0, some 0xFFFFF, true, [0x5A])] ∧
      (∀ c, (inPhase .tenure).bus.drive ≠ .tenure c) := by decide +kernel

/-- A contender drives its code, a listener none; the claimant of a census of 16 slots, and of a formation census. -/
theorem test_hyp_ClaimCodeEnd_censusHeader :
    let s (slots : Nat) : State :=
      (inPhase .census).setBus
        { (inPhase .census).bus with drive := .census { claimant := 3, slots := slots, mode := .fixed, interval := .t64 } .header }
    (contender (.tenure 1) .ready).claimCodeSent = some 0b10001 ∧ (∀ slots ∈ [0, 16], slots ≤ 16 ∧
        (s slots).bus.drive = .census { claimant := 3, slots := slots, mode := .fixed, interval := .t64 } .header ∧
        (s slots).censusHeaderSent.any (fun w => goodCensusHeader w == some ⟨3, slots, .fixed, .t64⟩) = true) ∧
      (inPhase .census).bus.drive = .nothing := by decide +kernel

theorem test_hyp_TurnPickerOrder :
    (contender (.tenure 1) .ready).Hears ∧
      goesOn (exec (.claimCodeEnd 0b10001) (contender (.tenure 1) .ready))
        (fun t => t.bus.drive == .tenure 1 && (t.chan 1).state == .onBus && t.lastSent == 1) = true := by decide +kernel

theorem test_hyp_LastChannelSent :
    goesOn (exec .resetAsserted (station .member)) (fun t => t.lastSent == 3) = true ∧
      (station .out).membership.link ≠ .down ∧
      goesOn (exec (.stationReset (pins true)) (station .out)) (fun t => t.lastSent == 3) = true ∧
      (State.reset.membership.link = .down ∧ State.reset.lastSent = 3 ∧
        goesOn (exec (.resetReleased (pins true)) State.reset) (fun t => t.lastSent == 3) = true) ∧
      (let s := (station .member).setChan 0 { Channel.reset with state := .ready }
       s.lastSent = 3 ∧ (s.chan 0).state = .ready) ∧
      (let s := ((station .member).setChan 1 { Channel.reset with state := .ready }).setChan 2
        { Channel.reset with state := .ready }
       s.lastSent = 3 ∧ ∀ c, (s.chan c).state = .ready ↔ c ∈ [(1 : ChannelNo), 2]) := by decide +kernel

/-! ## Hypotheses met: tenures -/

theorem test_hyp_TenureHeaderArrival :
    let s := inPhase .tenure
    (s.Hears ∧ s.bus.phase = .tenure ∧ s.bus.header = .awaited ∧ s.bus.verdict = .closed) ∧
      goodHeader (sealHeader 5 0 0 16 2) = none ∧ goodHeader (sealHeader 5 0 0 30 2) = none ∧
      goodHeader { sealHeader 5 0 1 3 2 with check := 0 } = none ∧ goodHeader (sealHeader 5 0 1 3 2) = some header ∧
      goodHeader (sealHeader 5 1 7 31 15) = some ⟨5, 1, 8, .all, 15⟩ ∧
      goodHeader (sealHeader 5 3 0 15 0) = some ⟨5, 3, 1, .station 15, 0⟩ ∧
      goesOn (exec (.tenureHeader (sealHeader 5 0 1 3 2)) s) (fun t => t.bus.destination) = true ∧
      queued 4 0 true ∈ [queued 4 0 true] := by decide +kernel

/-- A bit equal to the top of the check register and one that differs; frames with and without an offset. -/
theorem test_hyp_TenureHeaderArrival_check :
    ((check16 []).msb = true ∧ check16 [true] = 0xFFFE ∧ check16 [false] = 0xEFDF) ∧
      bitsOf 4 10 = [true, false, true, false] ∧ (0 < 4 ∧ 3 < 4) ∧
      wireFrameBits ⟨5, none, true, [0x81], 0⟩ =
        [true, false, true, false, false, false, false, false, false, false, true, true] ++
          [false, false, false, false, false, false, true] ∧
      (wireFrameBits ⟨5, some 0, true, [0x81], 0⟩).length = 3 + 1 + 20 + 6 + 1 + 8 := by decide +kernel

theorem test_hyp_FrameArrival :
    let s := landing (window .once 64)
    let f := sealFrame 0 none false [0x5A, 0xA5]
    let last := sealFrame 0 none true [1]
    let aside := s.setBus { s.bus with destination := false }
    let full := s.setLanding { s.landing with queue := List.replicate 16 (queued 1 0 true) }
    (f.wellFormed = true ∧ last.wellFormed = true ∧ s.Hears ∧ s.bus.phase = .tenure ∧ s.bus.verdict = .closed ∧
        s.bus.header = .good header ∧ s.bus.destination = true ∧ s.landing.vote = some vote) ∧
      ((inPhase .tenure).Hears ∧ (inPhase .tenure).bus.header = .awaited) ∧
      (aside.Hears ∧ aside.bus.destination = false) ∧
      ¬ ((sealFrame 1 none false [1]).index.val = s.bus.framesReceived) ∧
      ¬ (check16 (wireFrameBits { f with check := f.check + 1 }) = f.check + 1) ∧
      (f.index.val = s.bus.framesReceived ∧ s.bus.framesReceived + 1 ≤ header.frameCount ∧
        check16 (wireFrameBits f) = f.check ∧ frameVote (s.win 2) s.landing.queue.length 5 f = .accept) ∧
      frameVote (full.win 2) full.landing.queue.length 5 last = .retry ∧
      frameVote (s.win 2) 0 5 (sealFrame 0 (some 0) false [1]) = .refuse := by decide +kernel

/-- One byte too many, one place too few, and the forms that a kind refuses. -/
theorem test_hyp_FrameVote :
    frameVote (window .once 64) 15 5 (sealFrame 0 none false (List.replicate 64 0)) = .accept ∧
      frameVote (window .once 63) 15 5 (sealFrame 0 none false (List.replicate 64 0)) = .refuse ∧
      frameVote (window .once 64) 16 5 (sealFrame 0 none false [1]) = .retry ∧
      frameVote { window .ring 64 with accepted := 60, consumed := 0 } 0 5 (sealFrame 0 none false [1, 2, 3, 4]) = .accept ∧
      frameVote { window .ring 64 with accepted := 61, consumed := 0 } 0 5 (sealFrame 0 none false [1, 2, 3, 4]) = .retry ∧
      frameVote (window .table 64) 0 5 (sealFrame 0 (some 60) false [1, 2, 3, 4]) = .accept ∧
      frameVote (window .table 64) 0 5 (sealFrame 0 (some 61) false [1, 2, 3, 4]) = .refuse ∧
      frameVote (window .table 64) 0 5 (sealFrame 0 none false [1]) = .refuse ∧
      frameVote { window .once 64 with filter := 0xFFDF } 0 5 (sealFrame 0 none false [1]) = .refuse := by decide +kernel

theorem test_hyp_VerdictMarkRaisesTheLine :
    let s := landing (window .once 64)
    let with' (f : TenureVote → TenureVote) : State := s.setLanding { s.landing with vote := some (f vote) }
    let unreadable := (inPhase .tenure).setBus { (inPhase .tenure).bus with header := .unreadable }
    let failed := s.setBus { s.bus with echoFailed := true, destination := false }
    let bystander := s.setBus { s.bus with destination := false }
    let out := s.setMembership { s.membership with link := .out }
    let closing := (with' fun v => { v with accepted := 1 }).setWin 2 { window .once 64 with state := .closing }
    (s.Hears ∧ s.bus.phase = .tenure ∧ s.bus.verdict = .closed ∧ s.bus.echoFailed = false ∧ s.bus.header = .good header ∧
        s.bus.destination = true ∧ s.membership.link ≠ .out ∧ s.landing.vote = some vote ∧ vote.running ≠ .refuse ∧
        ¬ (1 ≤ vote.accepted)) ∧
      ((with' fun v => { v with running := .refuse }).Hears ∧ (with' fun v => { v with running := .retry }).Hears) ∧
      (closing.Hears ∧ (closing.win 2).state = .closing) ∧
      (unreadable.Hears ∧ unreadable.bus.header = .unreadable ∧ unreadable.bus.echoFailed = false) ∧
      (failed.Hears ∧ failed.bus.echoFailed = true) ∧
      (bystander.Hears ∧ bystander.bus.destination = false) ∧ (out.Hears ∧ out.membership.link = .out) ∧
      goesOn (exec .verdictMark { s with bus := { s.bus with framesReceived := 2 } })
        (fun t => t.bus.verdict == .opened (some .accept)) = true ∧
      goesOn (exec .verdictMark s) (fun t => t.bus.verdict == .opened (some .retry) && t.bus.frameFailures == 2) = true := by
  decide +kernel

/-- The member after the verdict mark, with the line it raises. -/
def inVerdict (raised : Option Vote) : State :=
  (inPhase .tenure).setBus { (inPhase .tenure).bus with verdict := .opened raised }

theorem test_hyp_TenureOutcomes :
    let s := inVerdict (some .accept)
    (s.Hears ∧ s.bus.phase = .tenure ∧ s.bus.verdict = .opened (some .accept)) ∧
      ((inVerdict none).Hears ∧ (inVerdict none).bus.verdict = .opened none) ∧
      ((inPhase .tenure).Hears ∧ (inPhase .tenure).bus.verdict = .closed) ∧
      outcomeOfLines ⟨true, true, true⟩ none = .refuse ∧ outcomeOfLines ⟨true, true, false⟩ none = .retry ∧
      outcomeOfLines ⟨true, false, false⟩ none = .commit ∧ outcomeOfLines ⟨false, false, false⟩ none = .unclaimed ∧
      outcomeOfLines ⟨false, false, false⟩ (some .accept) = .commit := by decide

theorem test_hyp_TenureEndEffects :
    let s := sending .onBus (segment (record 64 .free false) 0 64 0 0 false)
    let own := s.setLanding { s.landing with vote := some vote }
    (∀ c, (inPhase .tenure).bus.drive ≠ .tenure c) ∧ (s.bus.drive = .tenure 1 ∧ s.landing.vote = none) ∧
      (own.bus.drive = .tenure 1 ∧ own.landing.vote.isSome = true) := by decide

theorem test_hyp_RotationChoice :
    let list : List Entry := [⟨5, 0⟩, ⟨3, 1⟩, ⟨9, 0⟩]
    (list[0]? = some ⟨5, 0⟩ ∧ header.sender = 5) ∧
      (∀ e ∈ [(⟨3, 1⟩ : Entry), ⟨9, 0⟩], e.id ≠ header.sender) ∧
      rotated .rotate list (.good header) (some 2) = [⟨3, 1⟩, ⟨9, 0⟩, ⟨5, 0⟩] ∧
      rotated .rotate list .unreadable (some 2) = list ∧ rotated .rotate list .awaited (some 3) = list ∧
      rotated .rotate list .awaited (some 1) = [⟨5, 0⟩, ⟨9, 0⟩, ⟨3, 1⟩] := by decide

/-- The mover above, at and below the own rank, and a list without this station. -/
theorem test_hyp_ChosenEntryMovesToTheBottom :
    let s := station .member
    (s.order.list = [] ++ (⟨5, 0⟩ : Entry) :: [⟨3, 1⟩, ⟨9, 0⟩] ∧ (s.order.list.map fun d => d.id).Nodup ∧
        s.ownRank = some 1 ∧ 0 < 1) ∧
      (s.order.list = [(⟨5, 0⟩ : Entry)] ++ ⟨3, 1⟩ :: [⟨9, 0⟩] ∧ (⟨3, 1⟩ : Entry).id = s.straps.id) ∧
      (s.order.list = [(⟨5, 0⟩ : Entry), ⟨3, 1⟩] ++ ⟨9, 0⟩ :: [] ∧ 1 < 2) ∧
      (s.setStraps { s.straps with id := 0 }).ownRank = none := by decide

theorem test_hyp_OutcomeAtTheSender :
    let s (unread retry : Nat) (stop : Bool) : State :=
      sending .onBus (segment (record 128 .free false) 0 64 unread retry stop)
    (∀ p ∈ [(0, 0, false), (64, 0, true), (64, 0, false), (64, 15, false), (64, 14, true), (64, 14, false)],
      ((s p.1 p.2.1 p.2.2).chan 1).state = .onBus ∧
        ((s p.1 p.2.1 p.2.2).chan 1).current = some (segment (record 128 .free false) 0 64 p.1 p.2.1 p.2.2)) ∧
      ((sending .ready (segment (record 128 .free false) 0 64 64 0 false)).chan 1).state ≠ .onBus := by decide

theorem test_hyp_OutcomeAtTheLandingUnit :
    let s := landing (window .once 64)
    let ring (pos : Nat) : Window := { window .ring 64 with accepted := 48, commitMark := 32, ringPos := pos }
    s.landing.vote = some vote ∧
      (window .table 64).kind = .table ∧ (window .once 64).kind = .once ∧
      ((ring 16).kind = .ring ∧ (ring 16).ringPos < (ring 16).size ∧
        ((ring 16).accepted - (ring 16).commitMark).toNat ≤ (ring 16).ringPos ∧ (ring 16).setBack.ringPos = 0) ∧
      ((ring 15).ringPos < ((ring 15).accepted - (ring 15).commitMark).toNat ∧
        ((ring 15).accepted - (ring 15).commitMark).toNat ≤ (ring 15).size ∧ (ring 15).setBack.ringPos = 63) ∧
      ((inPhase .tenure).landing.vote = none ∧ ∀ f ∈ (inPhase .tenure).landing.queue, f.released = true) := by decide

/-- A sound writer with nothing queued, and at work on a released head. -/
theorem test_hyp_OutcomeAtTheLandingUnit_withoutVote :
    let busy := writing (window .once 6) [queued 6 0 true] .first ⟨0x2000, List.replicate 6 0xCD⟩
    (inPhase .tenure).WriterSound ∧
      (busy.WriterSound ∧ busy.landing.vote = none ∧ ∀ f ∈ busy.landing.queue, f.released = true) := by
  refine ⟨⟨rfl, ?_⟩, Or.inl ⟨rfl, ?_⟩, rfl, by decide⟩
  · rintro w (h | ⟨h, _⟩) <;> cases h
  · rintro w (h | ⟨h, _⟩) <;> cases h
    rfl

theorem test_hyp_EchoMismatchInTenure :
    let s (stop : Bool) : State := sending .onBus (segment (record 64 .free false) 0 64 0 0 stop)
    let leaving := (s false).setMembership { (s false).membership with link := .leaving }
    (∀ stop, (s stop).bus.phase = .tenure ∧ (s stop).bus.drive = .tenure 1 ∧ (s stop).bus.header = .awaited ∧
      (s stop).bus.verdict = .closed ∧ ((s stop).chan 1).state = .onBus ∧
      ((s stop).chan 1).current = some (segment (record 64 .free false) 0 64 0 0 stop) ∧
      (s stop).membership.link = .member) ∧
      (leaving.membership.link = .leaving ∧ leaving.bus.drive = .tenure 1) := by decide

/-! ## Hypotheses met: censuses and timers -/

theorem test_hyp_CensusHeaderArrival :
    let s := inPhase .census
    let listening := census .listening none 0
    let waiting := listening.setBus { listening.bus with censusHeader := .awaited }
    (s.Hears ∧ s.bus.phase = .census ∧ s.bus.censusHeader = .awaited ∧ s.bus.slotMarks = 0) ∧
      (waiting.Hears ∧ waiting.bus.censusHeader = .awaited ∧ waiting.membership.link = .listening) ∧
      goodCensusHeader (sealCensusHeader 5 17 .rotate .t64) = none ∧
      goodCensusHeader (sealCensusHeader 5 16 .fixed .t4096) = some ⟨5, 16, .fixed, .t4096⟩ ∧
      goodCensusHeader (sealCensusHeader 5 0 .rotate .t64) = some ⟨5, 0, .rotate, .t64⟩ ∧
      goodCensusHeader { sealCensusHeader 5 0 .rotate .t64 with check := 0 } = none := by decide +kernel

/-- The claimant waiting out the slot time of mark `k` of 3 + 16. -/
def claimant (part : CensusPart) : State :=
  let s := census .member (some (censusRecord 3)) 1
  s.setBus { s.bus with drive := .census { claimant := 3, slots := 3, mode := .rotate, interval := .t256 } part }

theorem test_hyp_ClaimantDrivesTheCensus :
    ((claimant (.slotTime 17)).Hears ∧ (claimant (.slotTime 17)).bus.phase = .census ∧ 17 + 1 < 3 + 16) ∧
      ((claimant (.slotTime 18)).Hears ∧ 3 + 16 ≤ 18 + 1) ∧
      ((inPhase .census).Hears ∧ (inPhase .census).bus.phase = .census ∧ (inPhase .census).bus.drive = .nothing) := by
  decide

/-- A list of three entries and an empty one, a join answer, and no answer; what is sent is heard as it was sent. -/
theorem test_hyp_SlotMarkOpensTheSlot_sent :
    let s (answer : Option Answer) : State := (inPhase .census).setBus { (inPhase .census).bus with answer := answer }
    let list : List Entry := [⟨5, 2⟩, ⟨3, 1⟩, ⟨9, 0⟩]
    ((s (some (.list 3 true list))).bus.answer = some (.list 3 true list) ∧
        (s (some (.list 3 true list))).listAnswerSent.any (fun a => heardList a == some list && a.leave) = true ∧
        (s (some (.list 3 false []))).listAnswerSent.any (fun a => heardList a == some [] && !a.leave) = true) ∧
      ((s (some (.join 15))).bus.answer = some (.join 15) ∧ (s (some (.join 15))).joinAnswerSent = some (sealJoinAnswer 15)) ∧
      (s none).bus.answer = none := by decide +kernel

theorem test_hyp_SlotMarkOpensTheSlot :
    let s := census .member (some (censusRecord 3))
    ((census .member none 0).Hears ∧ (census .member none 0).membership.census = none) ∧
      (∀ marks ∈ [0, 1, 2], (s marks).Hears ∧ (s marks).bus.slotMarks < 3) ∧
      (∀ marks ∈ [4, 18], (s marks).Hears ∧ 3 < (s marks).bus.slotMarks) ∧
      goesOn (exec .slotMark (s 1)) (fun t => t.bus.answer == some (.list 3 false t.order.list)) = true ∧
      goesOn (exec .slotMark (census .joining (some (censusRecord 3)) 6)) (fun t => t.bus.answer == some (.join 3)) = true := by
  decide +kernel

theorem test_hyp_EndOfTheListSlots :
    let r (list : List Entry) : CensusRecord := { censusRecord 3 with reference := some list }
    let s (link : LinkState) (list : List Entry) : State := census link (some (r list)) 3
    (∀ link ∈ [LinkState.listening, .joining, .member, .leaving, .out],
      (s link [⟨3, 0⟩]).Hears ∧ (s link [⟨3, 0⟩]).membership.census = some (r [⟨3, 0⟩]) ∧
        (s link [⟨3, 0⟩]).bus.slotMarks = (r [⟨3, 0⟩]).header.slots ∧ (s link [⟨3, 0⟩]).membership.link = link ∧
        (s link [⟨3, 0⟩]).order.list ≠ [⟨3, 0⟩]) ∧
      (s .member [⟨5, 0⟩, ⟨3, 1⟩, ⟨9, 0⟩]).order.list = [⟨5, 0⟩, ⟨3, 1⟩, ⟨9, 0⟩] := by decide

theorem test_hyp_SlotAnswersHeard :
    let s := census .member (some (censusRecord 3))
    let a := sealListAnswer 5 false (listCopy [⟨5, 0⟩, ⟨3, 1⟩])
    (∀ marks ∈ [1, 3], (s marks).Hears ∧ 0 < (s marks).bus.slotMarks ∧ (s marks).bus.slotAnswered = false ∧
      (s marks).bus.slotMarks ≤ 3) ∧
      ((s 4).Hears ∧ 3 < (s 4).bus.slotMarks) ∧ (census .member none 1).membership.census = none ∧
      (a.wellFormed = true ∧ heardList a = some [⟨5, 0⟩, ⟨3, 1⟩]) ∧
      heardList (sealListAnswer 5 false [⟨5, 0⟩, ⟨5, 1⟩]) = none ∧ heardList (sealListAnswer 5 false [⟨5, 3⟩]) = none ∧
      (let j := sealJoinAnswer 0
       check16 (bitsOf 4 j.id.val) = j.check ∧ j.id.val = (s 4).bus.slotMarks - 1 - 3) ∧
      ¬ ((sealJoinAnswer 1).id.val = (s 4).bus.slotMarks - 1 - 3) := by decide +kernel

theorem test_hyp_NewListOfACensus :
    let heard : List (Option HeardAnswer) := [some ⟨5, false⟩, some ⟨3, true⟩, none]
    let r : CensusRecord :=
      { censusRecord 3 with reference := some [⟨5, 1⟩, ⟨3, 0⟩, ⟨9, 2⟩], answers := heard, joiners := [12, 2] }
    (heard[0]? = some (some { id := (⟨5, 1⟩ : Entry).id, leave := false }) ∧
        heard[1]? = some (some { id := (⟨3, 0⟩ : Entry).id, leave := true }) ∧
        ∀ leave, heard[2]? ≠ some (some { id := (⟨9, 2⟩ : Entry).id, leave := leave })) ∧
      (r.header.mode = .rotate ∧ newList r = [⟨5, 0⟩, ⟨2, 0⟩, ⟨12, 0⟩]) ∧
      (let fixed := { r with header := { r.header with mode := .fixed } }
       fixed.header.mode = .fixed ∧ newList fixed = [⟨2, 0⟩, ⟨5, 0⟩, ⟨12, 0⟩]) ∧
      WellFormedList [⟨5, 1⟩, ⟨3, 0⟩, ⟨9, 2⟩] := by decide

theorem test_hyp_CensusEnd :
    let old : List Entry := [⟨5, 0⟩, ⟨3, 1⟩, ⟨9, 0⟩]
    let r (answers : List (Option HeardAnswer)) (reference : List Entry) : CensusRecord :=
      { censusRecord 3 with reference := some reference, answers := answers }
    let all : List (Option HeardAnswer) := [some ⟨5, false⟩, some ⟨3, false⟩, some ⟨9, false⟩]
    let left : List (Option HeardAnswer) := [some ⟨5, false⟩, some ⟨3, true⟩, some ⟨9, false⟩]
    let s (link : LinkState) (record : CensusRecord) : State := census link (some record) 19
    ((census .member none 19).Hears ∧ (census .member none 19).membership.census = none) ∧
      (∀ link ∈ [LinkState.listening, .joining, .member, .leaving, .out],
        (s link (r all old)).Hears ∧ (∃ e ∈ newList (r all old), e.id = (3 : StationId)) ∧
          (newList (r all old)).length = (s link (r all old)).order.list.length) ∧
      (newList (r all [⟨5, 0⟩, ⟨3, 0⟩])).length ≠ (s .member (r all old)).order.list.length ∧
      (let formation : CensusRecord := { censusRecord 0 with reference := some [], joiners := [3] }
       formation.header.slots = 0 ∧ (r all old).header.slots ≠ 0 ∧
         ∃ e ∈ newList formation, e.id = (s .joining formation).straps.id) ∧
      (¬ ∃ e ∈ newList (r left old), e.id = (3 : StationId)) ∧
      ((s .leaving (r left old)).ownRank = some 1 ∧ left[1]? = some (some { id := 3, leave := true })) ∧
      (∀ i ∈ [1], all[i]? ≠ some (some { id := (3 : StationId), leave := true })) := by decide

theorem test_hyp_SilenceEndsContestOrCensus :
    ((inPhase .contest).Hears ∧ (inPhase .contest).bus.phase = .contest) ∧
      ((census .joining (some (censusRecord 3)) 1).Hears ∧
        (census .joining (some (censusRecord 3)) 1).bus.phase = .census) := by decide

theorem test_hyp_EchoMismatchInCensus :
    let answering := (census .member (some (censusRecord 3)) 2).setBus
      { (census .member (some (censusRecord 3)) 2).bus with answer := some (.list 3 false []) }
    (answering.bus.phase = .census ∧ answering.bus.answer = some (.list 3 false [])) ∧
      (∀ part ∈ [CensusPart.header, .slotMark 0, .slotMark 18, .endMark],
        (claimant part).bus.phase = .census ∧ (claimant part).bus.answer = none ∧
          (claimant part).bus.drive = .census { claimant := 3, slots := 3, mode := .rotate, interval := .t256 } part) ∧
      (claimant .header).membership.link = .member ∧
      stops (exec .echoMismatchCensus (claimant (.slotTime 0))) .notDriving = true := by decide +kernel

theorem test_hyp_MembershipTimers :
    let idle := (station .member).setMembership { (station .member).membership with idleTimer := .running }
    let forming := (station .listening).setMembership { (station .listening).membership with formationTimer := .running }
    idle.membership.idleTimer = .running ∧ forming.membership.formationTimer = .running ∧
      (∀ l ∈ [LinkState.member, .leaving, .listening, .joining, .out, .down],
        ({ Membership.reset with link := l }).link = l) ∧
      stops (exec .idleTimerExpiry State.reset) .timerNotRunning = true := by decide +kernel

/-! ## Hypotheses met: resets -/

theorem test_hyp_PinReset :
    State.reset.membership.link = .down ∧ (sampleStraps (pins true)).id = 9 ∧
      goesOn (exec (.resetReleased (pins true)) State.reset)
        (fun t => t.membership.link == .listening && t.membership.interval == .t256 && t.log.records.isEmpty) = true ∧
      goesOn (exec (.resetReleased (pins false)) State.reset) (fun t => t.membership.link == .out) = true := by
  decide +kernel

theorem test_hyp_StationReset :
    let s := reading (channel .assembling (segment (record 6 .free false) 0 0 6 0 false))
    s.membership.link ≠ .down ∧
      goesOn (exec (.stationReset (pins true)) s) (fun t => t.port.orphan && t.log.records.length == 1) = true := by
  decide +kernel

/-! ## Hypotheses met: PACE and the local memory port -/

/-- TC1 waiting for PACE with no frame held. -/
def waitingForPace : State :=
  (station .member).setChan 1 (channel .assembling (segment (record 6 .paced false) 0 0 6 0 false))

theorem test_hyp_PaceInput :
    let s := waitingForPace
    let seg := segment (record 6 .paced false) 0 0 6 0 false
    ((s.chan 1).state = .assembling ∧ (s.chan 1).readOutstanding = false ∧ (s.chan 1).current = some seg ∧
        seg.record.pacing = .paced) ∧
      (s.chan 0).state ≠ .assembling ∧
      goesOn (exec (.paceActive 1 true) s) (fun t => t.port.inFlight == some (.read 1 ⟨0x1001, 6⟩)) = true ∧
      goesOn (exec (.paceActive 1 false) s) (fun t => t == s) = true := by decide +kernel

theorem test_hyp_ReadPointAndSegmentStart :
    let seg (p : Pacing) : Segment := segment (record 70 p false) 0 0 70 0 false
    let s (p : Pacing) (outstanding : Bool) (buffer : List HeldFrame) : State :=
      (station .member).setChan 1
        { channel .assembling (seg p) with readOutstanding := outstanding, buffer := buffer }
    (((s .free true []).chan 1).current = some (seg .free) ∧ ((s .free true []).chan 1).readOutstanding = true) ∧
      (((s .free false []).chan 1).readOutstanding = false ∧ (seg .free).record.pacing = .free) ∧
      (((s .paced false []).chan 1).buffer = [] ∧ (s .paced false []).pace[(1 : ChannelNo)] = false) ∧
      ((s .paced false [heldFrame 64 false]).chan 1).buffer ≠ [] ∧
      ((s .paced false []).setPace (Vector.replicate 4 true)).pace[(1 : ChannelNo)] = true := by decide

/-- TC1 with the read of its segment's 6 bytes from hex 1001 on in flight. -/
def readingSegment (tenureSize unread : Nat) : State :=
  reading (channel .assembling
    (segment { record unread .free false with tenureSize := tenureSize } 0 0 unread 0 false))

theorem test_hyp_FrameReadCompletion :
    let words : List Word := [0x44332211, 0x88776655]
    let s := readingSegment 2 6
    let more := readingSegment 2 7
    (s.port.inFlight = some (.read 1 ⟨0x1001, 6⟩) ∧ s.port.orphan = false ∧ (s.chan 1).state = .assembling ∧
        (s.chan 1).deferred = false ∧ (s.chan 1).current.isSome = true ∧ wellFormedAnswer words = true ∧
        words.length = accessSpan 0x1001 6) ∧
      (more.port.inFlight = some (.read 1 ⟨0x1001, 6⟩) ∧ ¬ (2 ≤ (more.chan 1).buffer.length + 1 ∨ 7 - 6 = 0)) ∧
      Machine.readBytes 0x1001 6 words = [0x22, 0x33, 0x44, 0x55, 0x66, 0x77] ∧
      goesOn (exec (.frameReadCompletion words) s) (fun t => (t.chan 1).state == .ready) = true ∧
      goesOn (exec (.frameReadCompletion words) more)
        (fun t => (t.chan 1).state == .assembling && t.port.inFlight == some (.read 1 ⟨0x1007, 1⟩)) = true ∧
      stops (exec (.frameReadCompletion [0]) s) .wrongWordCount = true := by decide +kernel

theorem test_hyp_ReadFaultAndStaleRead :
    let s := readingSegment 2 6
    let halted := reading { Channel.reset with state := .halted }
    let deferred := reading { (s.chan 1) with deferred := true }
    (s.port.inFlight = some (.read 1 ⟨0x1001, 6⟩) ∧ (s.chan 1).state = .assembling ∧ (s.chan 1).deferred = false ∧
        (s.chan 1).current.isSome = true) ∧
      (halted.port.inFlight = some (.read 1 ⟨0x1001, 6⟩) ∧ halted.port.orphan = false ∧
        (halted.chan 1).state ≠ .assembling ∧ (halted.chan 1).deferred = false) ∧
      (deferred.port.inFlight = some (.read 1 ⟨0x1001, 6⟩) ∧ (deferred.chan 1).deferred = true) ∧
      goesOn (exec .readFault s) (fun t => (t.chan 1).state == .halted && t.log.records.length == 1) = true := by
  decide +kernel

/-- The writer on the first part of a RING frame that passes the end of its region of 64 bytes. -/
def splitWriting : State :=
  writing (window .ring 64) [queued 6 60 true] .first ⟨0x203C, [0xCD, 0xCD, 0xCD, 0xCD]⟩

/-- The writer on the one part of a frame of an ONCE window of 6 bytes. -/
def wholeWriting (queue : List QueuedFrame) (x : Window) : State :=
  writing x (queued 6 0 true :: queue) .first ⟨0x2000, List.replicate 6 0xCD⟩

theorem test_hyp_LandingWriter :
    let idle := splitWriting.setLanding { splitWriting.landing with writer := .idle }
    ((window .once 64).kind ≠ .ring ∧ (window .ring 64).kind = .ring ∧
        (queued 4 60 true).ringPos + (queued 4 60 true).payload.length ≤ (window .ring 64).size ∧
        (window .ring 64).size < (queued 5 60 true).ringPos + (queued 5 60 true).payload.length) ∧
      (idle.landing.queue = [queued 6 60 true] ∧ idle.landing.writer = .idle ∧ (queued 6 60 true).released = true) ∧
      splitWriting.landing.writer ≠ .idle ∧ (station .member).landing.queue = [] ∧
      (splitWriting.port.inFlight = some (.write ⟨0x203C, [0xCD, 0xCD, 0xCD, 0xCD]⟩) ∧ splitWriting.port.orphan = false ∧
        splitWriting.landing.writer = .first ∧
        (splitAt (splitWriting.win 2) (queued 6 60 true)).isSome = true) ∧
      goesOn (exec .splitFirstPartCompletion splitWriting)
        (fun t => t.port.inFlight == some (.write ⟨0x2000, [0xCD, 0xCD]⟩)) = true := by decide +kernel

theorem test_hyp_LandingWriteCompletion :
    let s := wholeWriting [] (window .once 6)
    let second := (splitWriting.setLanding { splitWriting.landing with writer := .second })
    (s.port.inFlight = some (.write ⟨0x2000, List.replicate 6 0xCD⟩) ∧ s.port.orphan = false ∧
        s.landing.queue = [queued 6 0 true] ∧ s.landing.writer = .first ∧ splitAt (s.win 2) (queued 6 0 true) = none) ∧
      (second.port.inFlight.isSome = true ∧ second.landing.writer = .second) ∧
      goesOn (exec .landingWriteCompletion s) (fun t => (t.win 2).state == .full && t.log.records.length == 1) = true ∧
      goesOn (exec .landingWriteCompletion (wholeWriting [] { window .once 7 with state := .closing }))
        (fun t => (t.win 2).state == .closed && t.landing.queue.isEmpty) = true ∧
      stops (exec .landingWriteCompletion splitWriting) .noSuchCompletion = true := by decide +kernel

theorem test_hyp_WriteFault :
    let s := wholeWriting [] (window .once 6)
    let voting (w : WindowNo) : State :=
      let t := wholeWriting [queued 6 0 false] (window .once 12)
      t.setLanding { t.landing with vote := some { vote with window := w } }
    (s.port.inFlight = some (.write ⟨0x2000, List.replicate 6 0xCD⟩) ∧ s.port.orphan = false ∧
        s.landing.queue = [queued 6 0 true] ∧ s.landing.writer ≠ .idle ∧ s.landing.vote = none) ∧
      ((voting 2).landing.vote = some vote ∧
        ∃ g ∈ (voting 2).landing.queue, g.window = 2 ∧ g.released = false) ∧
      ((voting 4).landing.vote = some { vote with window := 4 } ∧ (4 : WindowNo) ≠ 2) ∧
      goesOn (exec .writeFault (voting 2)) (fun t => (t.win 2).state == .faulted && t.landing.queue.isEmpty) = true := by
  decide +kernel

theorem test_hyp_ArbiterAndOrphan :
    let r : ReadRequest := ⟨0x1000, 64⟩
    let both : MemPort := { MemPort.reset with reads := #v[some r, none, some r, none], lastServed := 0 }
    let orphan := (station .member).setPort { MemPort.reset with inFlight := some (.read 0 r), orphan := true }
    (({ both with write := some ⟨0x2000, [1]⟩ } : MemPort).write = some ⟨0x2000, [1]⟩) ∧
      (both.write = none ∧ both.reads[(2 : ChannelNo)] = some r ∧
        ∀ d : ChannelNo, (both.reads[d]).isSome = true → channelDistance both.lastServed 2 ≤ channelDistance both.lastServed d) ∧
      (MemPort.reset.inFlight = none ∧ MemPort.reset.write = none ∧ ∀ d : ChannelNo, MemPort.reset.reads[d] = none) ∧
      both.finish.inFlight = some (.read 2 r) ∧
      (orphan.port.inFlight.isSome = true ∧ orphan.port.orphan = true) ∧
      goesOn (exec .orphanCompletion orphan) (fun t => t.port == MemPort.reset) = true := by decide +kernel

theorem test_hyp_WordsOfAnAccess :
    (0 < accessSpan 0x1003 1 ∧ 16 < accessSpan 0x1003 64 ∧ accessSpan 0x1003 64 = 17 ∧ 64 ≤ 64) ∧
      (transfers 0x1003 2 [0x11, 0x22]) = [⟨0x1000, 0b1000, 0x11000000⟩, ⟨0x1004, 0b0001, 0x00000022⟩] ∧
      (accessTransfers (.read 0 ⟨0x1003, 64⟩)).length = 17 ∧
      (accessBursts (.read 0 ⟨0x1003, 64⟩)).map List.length = [16, 1] ∧
      (accessTransfers (.read 0 ⟨0x1000, 64⟩)).length = 16 ∧ (accessBursts (.read 0 ⟨0x1000, 64⟩)).map List.length = [16] := by
  decide +kernel

/-! ## Hypotheses met: channels -/

theorem test_hyp_SegmentEndAndGrant :
    let s := sending .ready (segment (record 64 .free true) 0 64 0 0 false)
    let ended (status : SegmentStatus) (stop : Bool) : EndingRecord :=
      { report := { channel := 1, status := status, tag := 7, committed := 64, retry := 0, repeats := true, notify := false }
        stopTaken := stop }
    s.log.records.length < 32 ∧ 32 ≤ (fullLog s).log.records.length ∧
      (s.chan 1).current = some (segment (record 64 .free true) 0 64 0 0 false) ∧
      (ended .refused false).report.status ≠ .done ∧ (ended .done true).stopTaken = true ∧
      ((ended .done false).report.status = .done ∧ (ended .done false).stopTaken = false) ∧
      (s.chan 1).staged = [] ∧ (record 64 .free true).repeats = true ∧ (record 64 .free false).repeats = false ∧
      ({ s.chan 1 with staged := [record 6 .free false] } : Channel).staged = record 6 .free false :: [] := by decide

/-- The greatest length, the top of the address space, and what lies one past each. -/
theorem test_hyp_Push :
    let s (n : Nat) (source : Word) : State :=
      commanded (station .out) (pushWords 3 { record n .paced true with source := source, offset := some 0 })
    let busy (staged : Nat) : State :=
      (s 64 0x1001).setChan 3 { Channel.reset with state := .halted, staged := List.replicate staged (record 6 .free false) }
    (s 64 0x1001).membership.link ≠ .down ∧
      (pushFields (s 1048576 0xFFF00000).cmd.words).isSome = true ∧ (pushFields (s 1 0xFFFFFFFF).cmd.words).isSome = true ∧
      pushFields (s 1048577 0).cmd.words = none ∧ pushFields (s 2 0xFFFFFFFF).cmd.words = none ∧
      pushFields (s 0 0).cmd.words = none ∧ pushFields #v[0, 64, 0x1010, 0] = none ∧
      pushFields #v[0, 64, 0x1000, 0x04000000] = none ∧ pushFields #v[0, 64, 0x9000, 0] = none ∧
      (pushFields #v[0, 64, 0x8F0F, 0x03000000]).isSome = true ∧ (pushFields #v[0, 64, 0x101F, 0x008FFFC0]).isSome = true ∧
      pushFields #v[0, 64, 0x101F, 0x008FFFC1] = none ∧ (pushFields #v[0, 63, 0x101F, 0x008FFFC1]).isSome = true ∧
      (pushFields #v[0, 64, 0x101F, 0x007FFFFF]).isSome = true ∧ pushFields #v[0, 64, 0x101E, 0] = none ∧
      pushFields #v[0, 64, 0x001F, 0] = none ∧
      ((s 64 0x1001).chan 3).state = .idle ∧
      (((busy 7).chan 3).state ≠ .idle ∧ ((busy 7).chan 3).staged.length < 8) ∧ 8 ≤ ((busy 8).chan 3).staged.length := by
  decide +kernel

theorem test_hyp_StopResumeFlush :
    let s (ch : Channel) : State := commanded ((station .out).setChan 1 ch) #v[1, 0, 0, 0]
    let seg := segment (record 64 .free false) 0 0 64 0 false
    let staged : List SegmentRecord := [record 6 .free false]
    channelField (commanded (station .out) #v[4, 0, 0, 0]).cmd.words[0] = none ∧
      (channelField 255 = none ∧ channelField 0xFFFFFF03 = some 3) ∧
      (∀ state ∈ [ChannelState.assembling, .ready, .onBus],
        channelField (s (channel state seg)).cmd.words[0] = some 1 ∧ ((s (channel state seg)).chan 1).state = state ∧
          ((s (channel state seg)).chan 1).current = some seg) ∧
      (∀ state ∈ [ChannelState.idle, .ending, .halted], ((s { Channel.reset with state := state }).chan 1).state = state) ∧
      ((s { Channel.reset with state := .halted, staged := staged }).chan 1).staged ≠ [] ∧
      (s Channel.reset).membership.link ≠ .down := by decide

theorem test_hyp_Queries :
    let s (n part : Word) : State := commanded (station .out) #v[n, part, 0, 0]
    (s 0 0).membership.link ≠ .down ∧ channelField (s 3 0).cmd.words[0] = some 3 ∧
      channelField (s 4 0).cmd.words[0] = none ∧ windowField (s 15 0).cmd.words[0] = some 15 ∧
      windowField (s 16 0).cmd.words[0] = none ∧
      ((s 15 0).cmd.words[1].toNat % 256 = 0 ∧ (s 15 1).cmd.words[1].toNat % 256 = 1 ∧
        (s 15 0x102).cmd.words[1].toNat % 256 = 2) ∧
      2 < (s 15 3).cmd.words[1].toNat % 256 := by decide +kernel

/-- A channel with every count at its limit, ASSEMBLING and ENDING, and one with nothing current; a window with a last
sender, a note and sixteen frames queued. -/
theorem test_hyp_Queries_words :
    let seg : Segment := segment { record 1048576 .paced true with dest := .all } 1048576 512 1048576 16 true
    let full (state : ChannelState) : Channel :=
      { channel state seg with staged := List.replicate 8 (record 6 .free false), flushCount := 255 }
    let e : EndingRecord :=
      { report := { channel := 1, status := .sourceFault, tag := 7, committed := 0, retry := 0, repeats := false,
                    notify := false }
        stopTaken := false }
    let ending : Channel := { full .ending with ending := some e }
    let x : Window := { window .ring 1048576 with committedFrames := 65535, lastSender := some 15, note := some (.fault 0),
                                                  faultAddr := some 0x2000 }
    let s := (station .out).setWin 2 x
    let busy := s.setLanding { s.landing with queue := List.replicate 16 (queued 1 0 true) }
    ((full .assembling).staged.length ≤ 8 ∧ (full .assembling).flushCount ≤ 255 ∧
        (full .assembling).current = some seg ∧
        (seg.committed ≤ 1048576 ∧ seg.unread ≤ 1048576 ∧ seg.held ≤ 512 ∧ seg.retry ≤ 16) ∧
        (full .assembling).state ≠ .ending) ∧
      channelWords (full .assembling) = #v[0x0007FFC1, 0x32100000, 0x1F100000, 0x07100200] ∧
      (ending.state = .ending ∧ ending.ending = some e ∧ (channelWords ending)[3] = 0x05100200) ∧
      (Channel.reset.current = none ∧ channelWords Channel.reset = #v[0, 0, 0, 0x07000000]) ∧
      ((busy.win 2).committedFrames ≤ 65535 ∧ (busy.win 2).lastSender = some 15 ∧ (busy.win 2).note = some (.fault 0) ∧
        busy.landing.queue.length ≤ 16) ∧
      busy.windowWords 2 0 = some #v[0xFFFF0011, 0x2000, 0x00100000, 0] ∧
      busy.windowWords 2 2 = some #v[0x00F1FFFF, 0x2000, 0x000B1001, 0] := by decide +kernel

/-! ## Hypotheses met: windows, membership commands -/

/-- A station with window 2 as given and the command words of CONSUME. -/
def consuming (x : Window) (n : Word) : State := commanded ((station .out).setWin 2 x) #v[2, n, 0, 0]

theorem test_hyp_OpenConsumeRearm :
    let fields : OpenFields := { kind := .ring, notify := .eachTenure, base := 0xFFF00000, size := 1048576, filter := 1 }
    let s := commanded (station .out) (openWords 2 fields)
    let ring : Window := { window .ring 64 with visible := 16, consumed := 0xFFFFFFFE }
    (s.membership.link ≠ .down ∧ openFields s.cmd.words = some (2, fields) ∧ (s.win 2).state = .closed) ∧
      ((s.setWin 2 (window .once 6)).win 2).state ≠ .closed ∧
      openFields (openWords 2 { fields with size := 1048577 }) = none ∧
      openFields (openWords 2 { fields with base := 0xFFF00004 }) = none ∧
      openFields (openWords 2 { fields with base := 0x1002 }) = none ∧ openFields (openWords 2 { fields with filter := 0 }) = none ∧
      openFields #v[0x300, 0x1000, 64, 1] = none ∧ openFields #v[0x3000, 0x1000, 64, 1] = none ∧
      openFields #v[0, 0x1000, 0, 1] = none ∧ (openFields #v[0x220F, 0xFFFFFFFC, 4, 0x8000]).isSome = true ∧
      openFields #v[16, 0x1000, 64, 1] = none ∧
      windowField (commanded s #v[16, 0, 0, 0]).cmd.words[0] = none ∧
      (windowField (consuming ring 18).cmd.words[0] = some 2 ∧ windowField (consuming ring 19).cmd.words[0] = some 2) ∧
      ((ring.visible - ring.consumed).toNat = 18 ∧ ring.state = .opened ∧ ring.kind = .ring) ∧
      ((window .once 64).state = .opened ∧ (window .once 64).kind ≠ .ring) ∧ Window.reset.state ≠ .opened ∧
      ({ window .once 64 with state := .full } : Window).state = .full ∧ ring.state ≠ .full := by
  decide +kernel

theorem test_hyp_Close :
    let s (state : WindowState) : State := consuming { window .once 64 with state := state } 0
    let waiting := (s .opened).setLanding { (s .opened).landing with queue := [queued 6 0 true] }
    (∀ state ∈ [WindowState.closed, .opened, .closing, .full, .faulted],
      (s state).membership.link ≠ .down ∧ windowField (s state).cmd.words[0] = some 2 ∧ ((s state).win 2).state = state ∧
        ∀ f ∈ (s state).landing.queue, f.window ≠ 2) ∧
      (∃ f ∈ waiting.landing.queue, f.window = 2) ∧ windowField (commanded (s .closed) #v[255, 0, 0, 0]).cmd.words[0] = none := by
  decide

theorem test_hyp_LeaveAndJoin :
    ∀ l ∈ [LinkState.listening, .joining, .member, .leaving, .out], (station l).membership.link = l := by decide

/-! ## Hypotheses met: the log and the register window -/

theorem test_hyp_NotesAndGrants :
    let s := station .member
    let noted := s.setMembership { s.membership with note := some .listChanged }
    let e : EndingRecord :=
      { report := { channel := 1, status := .done, tag := 7, committed := 6, retry := 0, repeats := false, notify := true }
        stopTaken := false }
    let ending := s.setChan 1 { channel .ending (segment (record 6 .free false) 6 0 0 0 false) with ending := some e }
    s.log.records.length < 32 ∧ 32 ≤ (fullLog s).log.records.length ∧ noted.membership.note = some .listChanged ∧
      (ending.chan 1).ending = some e ∧
      (((s.setChan 1 { Channel.reset with flushCount := 255 }).chan 1).ending = none ∧
        0 < ((s.setChan 1 { Channel.reset with flushCount := 255 }).chan 1).flushCount) ∧
      (∀ event ∈ [WindowEvent.progress, .full, .closed, .fault 0x2000],
        ((s.setWin 2 { window .once 6 with note := some event }).win 2).note = some event) := by decide

/-- A log of one record, and a full one, with and without a producer waiting. -/
theorem test_hyp_PopAndTheFreedSlot :
    let s := station .member
    let waits (t : State) : State := t.setMembership { t.membership with note := some .listChanged }
    (s.membership.link ≠ .down ∧ s.log.records = [] ∧ ∀ p ∈ allProducers, s.waiting p = false) ∧
      ((fullLog s).log.records = .flushed 0 1 :: List.replicate 31 (.flushed 0 1)) ∧
      ((List.replicate 31 (Record.flushed 0 1)).length < 32 ∧ (waits (fullLog s)).waiting .membership = true ∧
        ∀ q ∈ allProducers, (waits (fullLog s)).waiting q = true →
          producerDistance s.log.pointer .membership ≤ producerDistance s.log.pointer q) ∧
      32 ≤ (List.replicate 32 (Record.flushed 0 1)).length ∧
      goesOn (exec (.pop true) (waits (fullLog s)))
        (fun t => t.log.records.length == 32 && t.membership.note == none && t.intLevel) = true ∧
      goesOn (exec (.pop false) (fullLog s)) (fun t => t.log.records.length == 31) = true := by decide +kernel

theorem test_hyp_InterruptLine : (station .member).membership.link ≠ .down := by decide

theorem test_hyp_RegistersWhileResetIsAsserted :
    State.reset.membership.link = .down ∧ knownCodes.contains 0x06 = false := by decide

theorem test_hyp_RegisterReadsAndWrites :
    (station .out).membership.link ≠ .down ∧ (station .out).log.records = [] ∧ (station .out).memberCount ≤ 16 ∧
      (fullLog (station .out)).log.records.length ≤ 32 ∧ (fullLog (station .member)).readWord 10 = 0x80031133 ∧
      (fullLog (station .member)).readWord 11 = 0x00002000 ∧ knownCodes.contains 0x00 = false ∧ knownCodes.contains 0xFF = false ∧
      (∀ i : Fin 4, PlainWord.stationStatus ≠ .command i) ∧
      goesOn (exec (.registerWrite (.command 2) 0x11223344 0b0101) (station .out))
        (fun t => t.cmd.words == #v[0, 0, 0x00220044, 0]) = true := by decide +kernel

/-- The head of the log of each kind, its counts at their limits, and the four words it shows. -/
theorem test_hyp_RegisterReadsAndWrites_records :
    let shows (r : Record) (words : List Word) : Bool :=
      let s := (station .out).setLog { (station .out).log with records := [r, .flushed 0 1] }
      s.log.records == r :: [.flushed 0 1] && [12, 13, 14, 15].map s.readWord == words
    shows (.segmentEnd { channel := 3, status := .sourceFault, tag := 0xABCD, committed := 2097151, retry := 31,
                         repeats := true, notify := true }) [0xABCD3531, 0x001FFFFF, 31, 0] = true ∧
      shows (.flushed 3 255) [0x00000032, 255, 0, 0] = true ∧
      shows (.landing { window := 15, event := .fault 0x2000, value := 0x2000, frames := 65535, lastSender := some 9 })
        [0x000913F3, 0x2000, 65535, 0] = true ∧
      shows (.membership { link := .member, reason := .listChanged, memberCount := 16, rank := some 15, mode := .fixed,
                           interval := .t4096 }) [0x0F0F1734, 0, 0, 0] = true := by decide +kernel

/-! ## Hypotheses met: invariants and the host's words -/

/-- A member with two stations more, one command waiting and nothing else under way. -/
def resting : State := { station .member with pending := [.setInterruptEnable true] }

/-- The step of the resting member. -/
def rested : State := { (station .member) with cmd := { CommandPort.reset with intEnable := true } }

theorem test_resting_steps : step resting = .next rested := rfl

/-- Every channel of the resting member is a channel after reset, and every window a window after reset. -/
theorem test_resting_parts : (∀ c, resting.chan c = Channel.reset) ∧ ∀ w, resting.win w = Window.reset := by decide

theorem test_hyp_LimitsKept : resting.WithinLimits ∧ step resting = .next rested := by
  refine ⟨⟨by decide, by decide, by decide, fun c => ?_, by decide⟩, rfl⟩
  rw [test_resting_parts.1 c]
  exact ⟨by decide, by decide⟩

theorem test_hyp_OrderListKept : resting.OrderSound ∧ step resting = .next rested := ⟨⟨by decide, nofun⟩, rfl⟩

theorem test_hyp_NoProducerWaitsWithRoom : resting.NoIdleWaiter ∧ step resting = .next rested := by
  refine ⟨fun _ p => ?_, rfl⟩
  have h : (∀ c, resting.waiting (.channel c) = false) ∧ ∀ w, resting.waiting (.window w) = false := by decide
  cases p with
  | membership => rfl
  | channel c => exact h.1 c
  | window w => exact h.2 w

theorem test_hyp_ChannelsKept : resting.ChannelsSound ∧ step resting = .next rested := by
  have reads : ∀ c : ChannelNo, resting.port.reads[c] = none := by decide
  refine ⟨⟨⟨fun _ => ⟨rfl, reads⟩, nofun⟩, fun c => ⟨?_, ⟨?_, ?_, ?_⟩, ?_⟩⟩, rfl⟩
  · rw [test_resting_parts.1 c]
    exact ⟨nofun, rfl, rfl, rfl, rfl⟩
  · rw [test_resting_parts.1 c, reads c]
    refine ⟨nofun, fun h => ?_⟩
    rcases h with ⟨_, h⟩ | ⟨_, h, _⟩ <;> cases h
  · rintro _ _ _ ⟨h, _⟩
    cases h
  · rintro _ (h | ⟨h, _⟩)
    · rw [reads c] at h
      cases h
    · cases h
  · intro h
    rw [test_resting_parts.1 c] at h
    cases h

theorem test_hyp_BusAndMembershipKept : resting.BusSound ∧ resting.MembershipSound ∧ step resting = .next rested := by
  refine ⟨⟨by decide, by decide, nofun, nofun, nofun, by decide, by decide, fun c => ?_⟩, ?_, rfl⟩
  · rw [test_resting_parts.1 c]
    exact ⟨nofun, nofun⟩
  · unfold State.MembershipSound
    decide

theorem test_hyp_LandingKept : resting.port.Sound ∧ resting.LandingSound ∧ step resting = .next rested := by
  have reads : ∀ c : ChannelNo, resting.port.reads[c] = none := by decide
  refine ⟨⟨fun _ => ⟨rfl, reads⟩, nofun⟩, ⟨⟨by decide, nofun, nofun, List.Pairwise.nil⟩, ⟨rfl, ?_⟩, ⟨?_, ?_⟩, nofun, nofun, fun w => ?_⟩,
    rfl⟩
  · rintro w (h | ⟨h, _⟩) <;> cases h
  · intro h
    exact absurd rfl h
  · rintro ⟨h, _⟩
    cases h
  · simp only [State.OffsetsSound, State.DrainSound, test_resting_parts.2 w]
    refine ⟨fun _ h => ?_, ⟨nofun, fun _ h => ?_⟩, nofun, fun _ => rfl⟩ <;> rcases h with h | h | h <;> cases h

theorem test_hyp_CommandWordsRoundTrip :
    let r : SegmentRecord := { record 1048576 .paced true with source := 0xFFF00000, offset := some 0, tag := 0xFFFF }
    let f : OpenFields := { kind := .table, notify := .segmentEnd, base := 0xFFFFFFFC, size := 4, filter := 0x8000 }
    (r.valid = true ∧ pushFields (pushWords 3 r) = some (3, r)) ∧ (f.valid = true ∧ openFields (openWords 15 f) = some (15, f)) := by
  decide

/-! ## Rows of the spec's own examples, one step each -/

/-- Figure 7-10: RETRY at 256 + 64 − 0, ACCEPT at 384 + 64 − 256, RETRY at 384 + 64 − 128. -/
theorem test_figure_7_10 :
    let x (a consumed : Word) : Window := { window .ring 256 with accepted := a, consumed := consumed }
    let f : WireFrame := ⟨0, none, false, List.replicate 64 0, 0⟩
    frameVote (x 256 0) 0 5 f = .retry ∧ frameVote (x 384 256) 0 5 f = .accept ∧ frameVote (x 384 128) 0 5 f = .retry := by
  decide +kernel

/-- Figure 8-3, last row: V reaches the size, PROGRESS and then FULL, shown as FULL. -/
theorem test_figure_8_3_last_row :
    let x : Window := { window .once 200 with notify := .eachTenure, accepted := 200, commitMark := 200, visible := 192,
                                              committedFrames := 4, lastSender := some 5 }
    let s := writing x [{ queued 8 0 true with target := 192 }] .first ⟨0x20C0, List.replicate 8 0xCD⟩
    goesOn (exec .landingWriteCompletion s) (fun t =>
      t.log.records == [.landing { window := 2, event := .full, value := 200, frames := 4, lastSender := some 5 }] &&
        (t.win 2).state == .full && (t.win 2).committedFrames == 0 && t.landing.queue.isEmpty) = true := by decide +kernel

/-- Figure 6-5: a COMMIT with a stop pending: SEGMENT_END with STOPPED, 256 bytes, retry count 0; the channel HALTED. -/
theorem test_figure_6_5 :
    let s := sending .onBus (segment (record 300 .free false) 0 256 44 1 true)
    goesOn (exec (.verdictSample ⟨true, false, false⟩) (s.setBus { s.bus with verdict := .opened none })) (fun t =>
      t.log.records == [.segmentEnd { channel := 1, status := .stopped, tag := 7, committed := 256, retry := 0,
                                      repeats := false, notify := false }] &&
        (t.chan 1).state == .halted && t.order.list == [⟨5, 0⟩, ⟨9, 0⟩, ⟨3, 1⟩]) = true := by decide +kernel

/-- Figure 11-1: the end mark of a formation census. -/
theorem test_figure_11_1 :
    let r : CensusRecord :=
      { header := { claimant := 2, slots := 0, mode := .rotate, interval := .t256 }, reference := some [], answers := [],
        joiners := [3, 5, 9], diverged := false, collided := false }
    let s := (census .joining (some r) 16).setOrder OrderUnit.reset
    goesOn (exec .endMark s) (fun t =>
      t.order.list == [⟨3, 0⟩, ⟨5, 0⟩, ⟨9, 0⟩] && t.membership.idleTimer == .running && t.bus.phase == .silent &&
        t.log.records == [.membership { link := .member, reason := .change .formed, memberCount := 3, rank := some 0,
                                        mode := .rotate, interval := .t256 }]) = true := by decide +kernel

/-! ## One step of the commands not shown above -/

theorem test_bus_steps :
    goesOn (exec .startMark (inPhase .silent)) (fun t => t.bus.phase == .contest && t.membership.idleTimer == .running) = true ∧
      goesOn (exec .contestSilence (inPhase .contest)) (fun t => t.bus.phase == .silent) = true ∧
      goesOn (exec .stepInSilence ((station .out).setBus BusController.reset)) (fun t => t.bus.inStep) = true ∧
      goesOn (exec .truncation (inPhase .tenure)) (fun t => t.bus.phase == .silent && t.membership.tenureCounter == 1) = true ∧
      goesOn (exec .censusSlotTime (claimant (.slotTime 18))) (fun t =>
        t.bus.drive == .census { claimant := 3, slots := 3, mode := .rotate, interval := .t256 } .endMark) = true ∧
      goesOn (exec .censusAbandonSilence (census .joining (some (censusRecord 3)) 1))
        (fun t => t.membership.link == .listening && t.membership.formationTimer == .running) = true := by decide +kernel

theorem test_echo_steps :
    goesOn (exec .echoWithdrawal (sending .onBus (segment (record 64 .free false) 0 64 0 3 false)))
        (fun t => (t.chan 1).state == .ready && t.membership.link == .listening && t.log.records.length == 1) = true ∧
      goesOn (exec .echoMismatchTenure (sending .onBus (segment (record 64 .free false) 0 64 0 15 false)))
        (fun t => (t.chan 1).state == .halted && t.bus.echoFailed) = true ∧
      goesOn (exec .echoMismatchCensus (claimant .endMark)) (fun t => t.membership.link == .listening) = true := by
  decide +kernel

theorem test_slot_answers :
    goesOn (exec (.listSlotAnswer (sealListAnswer 5 false (listCopy [⟨5, 0⟩]))) (census .joining (some (censusRecord 3)) 1))
        (fun t => t.membership.census.any fun r => r.reference == some [⟨5, 0⟩]) = true ∧
      goesOn (exec (.joinSlotAnswer (sealJoinAnswer 0)) (census .joining (some (censusRecord 3)) 4))
        (fun t => t.membership.census.any fun r => r.joiners == [0]) = true ∧
      goesOn (exec (.censusHeader (sealCensusHeader 5 3 .rotate .t64)) ((station .listening).setBus
          { (station .listening).bus with phase := .census }))
        (fun t => t.membership.link == .joining && t.membership.census.isSome) = true := by decide +kernel

theorem test_timers :
    goesOn (exec .idleTimerExpiry ((station .member).setMembership { (station .member).membership with idleTimer := .running }))
        (fun t => t.membership.idleWant && t.wantsCensus) = true ∧
      goesOn (exec .formationTimerExpiry
          ((station .listening).setMembership { (station .listening).membership with formationTimer := .running }))
        (fun t => t.beginsStartMark) = true := by decide +kernel

theorem test_channel_commands :
    let s := (commanded (station .out) (pushWords 1 (record 70 .free false)))
    let pushed := (commanded (station .out) #v[1, 0, 0, 0]).setChan 1
      { channel .assembling (segment (record 70 .free false) 0 0 70 0 false) with staged := [record 6 .free false] }
    goesOn (exec .push s) (fun t => t.port.inFlight == some (.read 1 ⟨0x1001, 64⟩) && t.cmd.result == .ok) = true ∧
      goesOn (exec .stop pushed) (fun t => (t.chan 1).state == .halted && t.log.records.length == 1) = true ∧
      goesOn (exec .resume (pushed.setChan 1 { (pushed.chan 1) with state := .halted, current := none }))
        (fun t => (t.chan 1).state == .assembling && (t.chan 1).staged.isEmpty) = true ∧
      goesOn (exec .flush pushed) (fun t => t.log.records == [.flushed 1 1]) = true ∧
      goesOn (exec .queryChannel pushed) (fun t => t.cmd.results[2] == 0x05000046) = true := by decide +kernel

theorem test_window_commands :
    let fields : OpenFields := { kind := .ring, notify := .none, base := 0x2000, size := 256, filter := 0x20 }
    goesOn (exec .openWindow (commanded (station .out) (openWords 3 fields)))
        (fun t => (t.win 3).state == .opened && (t.win 3).size == 256) = true ∧
      goesOn (exec .closeWindow (consuming (window .once 64) 0))
        (fun t => (t.win 2).state == .closed && t.log.records.length == 1) = true ∧
      goesOn (exec .consume (consuming { window .ring 256 with visible := 256 } 128))
        (fun t => (t.win 2).consumed == 128) = true ∧
      goesOn (exec .consume (consuming { window .ring 256 with visible := 127 } 128))
        (fun t => t.cmd.result == .badField) = true ∧
      goesOn (exec .rearm (consuming { window .once 64 with state := .full, visible := 64 } 0))
        (fun t => (t.win 2).state == .opened && (t.win 2).visible == 0) = true ∧
      goesOn (exec .queryWindow (consuming (window .once 64) 0)) (fun t => t.cmd.results[2] == 64) = true := by
  decide +kernel

theorem test_membership_and_port_commands :
    goesOn (exec .leave (station .member)) (fun t => t.membership.link == .leaving) = true ∧
      goesOn (exec .join (station .out)) (fun t => t.membership.link == .listening) = true ∧
      goesOn (exec (.unknownCommand 0x06) (station .out)) (fun t => t.readWord 5 == 4 && t.readWord 4 == 6) = true ∧
      goesOn (exec (.setInterruptEnable true) (fullLog (station .out))) (fun t => t.intLevel) = true ∧
      goesOn (exec .staleReadCompletion (reading { Channel.reset with state := .halted }))
        (fun t => !(t.chan 1).readOutstanding && t.port.inFlight.isNone) = true := by decide +kernel

end Sys2Proof.Tests
end

namespace Sys2Proof.Machine

/-! ## CONTEST_LOSS (R5, R13) -/

/-- The command CONTEST_LOSS is dispatched to its effect. -/
theorem exec_contestLoss (s : State) : exec .contestLoss s = execContestLoss s := rfl

/-- R5: in a contest, a contender that loses writes the bus controller alone, and of it the drive alone. -/
theorem execContestLoss_of_claim {s : State} {c : Claim} (hphase : s.bus.phase = .contest)
    (hdrive : s.bus.drive = .claim c) :
    execContestLoss s = .next (s.setBus { s.bus with drive := .nothing }) := by
  simp only [execContestLoss, hphase, hdrive]

/-- Settles O6: the loss is one write of the bus controller, which leaves every other block as it was (R13). -/
theorem contestLossChangesNothingElse : Obligations.ContestLossChangesNothingElse := by
  intro s c hphase hdrive
  calc exec .contestLoss s
      = execContestLoss s := exec_contestLoss s
    _ = .next (s.setBus { s.bus with drive := .nothing }) := execContestLoss_of_claim hphase hdrive
    _ = .next { s with bus := { s.bus with drive := .nothing } } := by rw [State.setBus]

end Sys2Proof.Machine

namespace Sys2Proof.Machine.State

/-! ## What leaves the last channel sent as it was (R96)

The shared operations, block by block: each is read off its shape, or follows the branches of its definition. -/

section

variable (s : State)

/-! ### Channels, their reads and the log -/

@[simp] theorem requestRead_lastSent (c : ChannelNo) : (s.requestRead c).lastSent = s.lastSent := by
  obtain ⟨ch, p, h⟩ := requestRead_shape s c
  simp [h]

@[simp] theorem readPoint_lastSent (c : ChannelNo) : (s.readPoint c).lastSent = s.lastSent := by
  obtain ⟨ch, p, h⟩ := readPoint_shape s c
  simp [h]

@[simp] theorem startSegment_lastSent (c : ChannelNo) (r : SegmentRecord) (staged : List SegmentRecord) :
    (s.startSegment c r staged).lastSent = s.lastSent := by
  obtain ⟨ch, p, h⟩ := startSegment_shape s c r staged
  simp [h]

@[simp] theorem grant_lastSent (p : Producer) : (s.grant p).lastSent = s.lastSent := by
  cases p with
  | membership =>
    obtain ⟨m, l, h⟩ := grantMembership_shape s
    simp [State.grant, h]
  | channel c =>
    obtain ⟨ch, p, l, h⟩ := grantChannel_shape s c
    simp [State.grant, h]
  | window w =>
    obtain ⟨x, l, h⟩ := grantWindow_shape s w
    simp [State.grant, h]

@[simp] theorem offer_lastSent (p : Producer) : (s.offer p).lastSent = s.lastSent := by
  unfold State.offer
  split
  · exact grant_lastSent s p
  · rfl

@[simp] theorem grantFreed_lastSent : s.grantFreed.lastSent = s.lastSent := by
  unfold State.grantFreed
  repeat' split
  · exact grant_lastSent s _
  · rfl
  · rfl

@[simp] theorem endSegment_lastSent (c : ChannelNo) (seg : Segment) (status : SegmentStatus) :
    (s.endSegment c seg status).lastSent = s.lastSent := by
  obtain ⟨ch, p, l, h⟩ := endSegment_shape s c seg status
  simp [h]

@[simp] theorem channelOutcome_lastSent (c : ChannelNo) (o : TenureOutcome) :
    (s.channelOutcome c o).lastSent = s.lastSent := by
  obtain ⟨ch, p, l, h⟩ := channelOutcome_shape s c o
  simp [h]

@[simp] theorem channelWithdrawal_lastSent (c : ChannelNo) : (s.channelWithdrawal c).lastSent = s.lastSent := by
  obtain ⟨ch, p, l, h⟩ := channelWithdrawal_shape s c
  simp [h]

@[simp] theorem takeFrame_lastSent (c : ChannelNo) (seg : Segment) (f : HeldFrame) :
    (s.takeFrame c seg f).lastSent = s.lastSent := by
  unfold State.takeFrame
  dsimp only
  split
  · rfl
  · exact (s.setChan c _).readPoint_lastSent c

@[simp] theorem dropStale_lastSent (c : ChannelNo) : (s.dropStale c).lastSent = s.lastSent := by
  unfold State.dropStale
  dsimp only
  split
  · exact (s.setChan c _).readPoint_lastSent c
  · rfl

@[simp] theorem finishAccess_lastSent : s.finishAccess.lastSent = s.lastSent := rfl

@[simp] theorem popRecord_lastSent : s.popRecord.lastSent = s.lastSent := by
  unfold State.popRecord
  split
  · rfl
  · exact (s.setLog _).grantFreed_lastSent

/-! ### The landing unit -/

@[simp] theorem windowEvent_lastSent (w : WindowNo) (e : WindowEvent) : (s.windowEvent w e).lastSent = s.lastSent := rfl

@[simp] theorem drainTest_lastSent (w : WindowNo) : (s.drainTest w).lastSent = s.lastSent := by
  obtain ⟨x, h⟩ := drainTest_shape s w
  simp [h]

@[simp] theorem noteTest_lastSent (f : QueuedFrame) : (s.noteTest f).lastSent = s.lastSent := by
  obtain ⟨x, h⟩ := noteTest_shape s f
  simp [h]

@[simp] theorem writerAct_lastSent : s.writerAct.lastSent = s.lastSent := by
  obtain ⟨writer, p, h⟩ := writerAct_shape s
  simp [h]

@[simp] theorem frameWritten_lastSent (f : QueuedFrame) : (s.frameWritten f).lastSent = s.lastSent := rfl

@[simp] theorem faultWindow_lastSent (w : WindowNo) (address : Word) :
    (s.faultWindow w address).lastSent = s.lastSent := by
  simp [State.faultWindow]

@[simp] theorem landFrame_lastSent (sender : StationId) (f : WireFrame) :
    (s.landFrame sender f).lastSent = s.lastSent := by
  unfold State.landFrame
  dsimp only
  repeat' split
  all_goals rfl

/-! ### Membership and censuses -/

@[simp] theorem note_lastSent (n : NoteReason) : (s.note n).lastSent = s.lastSent := by
  obtain ⟨m, l, h⟩ := note_shape s n
  simp [h]

@[simp] theorem enterWithNote_lastSent (l : LinkState) (r : Reason) : (s.enterWithNote l r).lastSent = s.lastSent := by
  obtain ⟨m, log, h⟩ := enterWithNote_shape s l r
  simp [h]

@[simp] theorem tenureCollision_lastSent : s.tenureCollision.lastSent = s.lastSent := by
  obtain ⟨m, l, h⟩ := tenureCollision_shape s
  simp [h]

@[simp] theorem censusCollision_lastSent : s.censusCollision.lastSent = s.lastSent := by
  obtain ⟨m, l, h⟩ := censusCollision_shape s
  simp [h]

@[simp] theorem abandonCensus_lastSent : s.abandonCensus.lastSent = s.lastSent := by
  obtain ⟨m, h⟩ := censusAbandoned_shape s
  simp [State.abandonCensus, h]

@[simp] theorem openCensus_lastSent (h : CensusHeader) : (s.openCensus h).lastSent = s.lastSent := by
  obtain ⟨m, hm⟩ := openCensus_shape s h
  simp [hm]

@[simp] theorem endListSlots_lastSent (r : CensusRecord) : (s.endListSlots r).lastSent = s.lastSent := by
  obtain ⟨o, m, l, h⟩ := endListSlots_shape s r
  simp [h]

@[simp] theorem followSlot_lastSent (k : Nat) : (s.followSlot k).lastSent = s.lastSent := by
  unfold State.followSlot
  dsimp only
  repeat' split
  · rfl
  · rfl
  · exact s.endListSlots_lastSent _
  · rfl

@[simp] theorem takeListAnswer_lastSent (r : CensusRecord) (a : WireListAnswer) :
    (s.takeListAnswer r a).lastSent = s.lastSent := by
  unfold State.takeListAnswer
  split <;> rfl

@[simp] theorem takeJoinAnswer_lastSent (r : CensusRecord) (j : Nat) (a : WireJoinAnswer) :
    (s.takeJoinAnswer r j a).lastSent = s.lastSent := by
  unfold State.takeJoinAnswer
  split <;> rfl

@[simp] theorem censusEnd_lastSent : s.censusEnd.lastSent = s.lastSent := by
  obtain ⟨o, m, l, h⟩ := censusEnd_shape s
  simp [h]

/-! ### Tenures on the bus -/

@[simp] theorem tenureEnd_lastSent (o : TenureOutcome) : (s.tenureEnd o).lastSent = s.lastSent := by
  obtain ⟨chs, land, p, l, n, h⟩ := tenureEnd_shape s o
  rw [h]
  rfl

@[simp] theorem endedByStartMark_lastSent : s.endedByStartMark.lastSent = s.lastSent := by
  unfold State.endedByStartMark
  split
  · exact s.tenureEnd_lastSent .aborted
  · exact s.abandonCensus_lastSent
  · rfl
  · rfl

@[simp] theorem takeHeader_lastSent (h : Header) : (s.takeHeader h).lastSent = s.lastSent := by
  unfold State.takeHeader
  dsimp only
  split <;> rfl

@[simp] theorem takeFrameArrival_lastSent (h : Header) (f : WireFrame) :
    (s.takeFrameArrival h f).lastSent = s.lastSent := by
  unfold State.takeFrameArrival
  dsimp only
  repeat' split
  · exact (s.setBus _).landFrame_lastSent _ f
  · rfl
  · rfl

@[simp] theorem reportWithdrawal_lastSent (c : ChannelNo) : (s.reportWithdrawal c).lastSent = s.lastSent := by
  unfold State.reportWithdrawal
  dsimp only [State.draw]
  repeat' split
  · rw [tenureCollision_lastSent, channelWithdrawal_lastSent, setChoices_lastSent]
  · rw [channelWithdrawal_lastSent, tenureCollision_lastSent, setChoices_lastSent]
  · rw [tenureCollision_lastSent, channelWithdrawal_lastSent]

/-! ### The owners of the host commands -/

/-- R166: a command that names a channel leaves the last channel sent, where its act on every channel does. -/
theorem onChannel_lastSent (act : ChannelNo → State × Reply) (h : ∀ c, (act c).1.lastSent = s.lastSent) :
    (s.onChannel act).1.lastSent = s.lastSent := by
  unfold State.onChannel
  split
  · rfl
  · exact h _

/-- R126: a command that names a window leaves the last channel sent, where its act on every window does. -/
theorem onWindow_lastSent (act : WindowNo → State × Reply) (h : ∀ w, (act w).1.lastSent = s.lastSent) :
    (s.onWindow act).1.lastSent = s.lastSent := by
  unfold State.onWindow
  split
  · rfl
  · exact h _

theorem push_lastSent : s.push.1.lastSent = s.lastSent := by
  unfold State.push
  dsimp only
  repeat' split
  · rfl
  · exact s.startSegment_lastSent _ _ _
  · rfl
  · rfl

theorem stopChannel_lastSent (c : ChannelNo) : (s.stopChannel c).1.lastSent = s.lastSent := by
  unfold State.stopChannel
  split
  · exact s.endSegment_lastSent c _ .stopped
  · exact s.endSegment_lastSent c _ .stopped
  · rfl
  · rfl

theorem resumeChannel_lastSent (c : ChannelNo) : (s.resumeChannel c).1.lastSent = s.lastSent := by
  unfold State.resumeChannel
  repeat' split
  · exact s.startSegment_lastSent c _ _
  · rfl
  · rfl

theorem flushChannel_lastSent (c : ChannelNo) : (s.flushChannel c).1.lastSent = s.lastSent := by
  unfold State.flushChannel
  dsimp only
  split
  · rfl
  · exact (s.setChan c _).offer_lastSent _

theorem openCommand_lastSent : s.openCommand.1.lastSent = s.lastSent := by
  unfold State.openCommand
  repeat' split
  all_goals rfl

theorem closeCommand_lastSent (w : WindowNo) : (s.closeCommand w).1.lastSent = s.lastSent := by
  have hdrain (t : State) : ((t.drainTest w).offer (.window w)).lastSent = t.lastSent := by
    rw [offer_lastSent, drainTest_lastSent]
  unfold State.closeCommand
  dsimp only
  split
  · exact hdrain (s.setWin w _)
  · exact hdrain (s.setWin w _)
  · exact ((s.setWin w _).windowEvent w .closed).offer_lastSent _
  · rfl
  · rfl

theorem consumeCommand_lastSent (w : WindowNo) : (s.consumeCommand w).1.lastSent = s.lastSent := by
  unfold State.consumeCommand
  dsimp only
  repeat' split
  all_goals rfl

theorem rearmCommand_lastSent (w : WindowNo) : (s.rearmCommand w).1.lastSent = s.lastSent := by
  unfold State.rearmCommand
  split <;> rfl

theorem queryWindow_lastSent (w : WindowNo) : (s.queryWindow w).1.lastSent = s.lastSent := by
  unfold State.queryWindow
  split <;> rfl

theorem leaveCommand_lastSent : s.leaveCommand.1.lastSent = s.lastSent := by
  unfold State.leaveCommand
  split
  · rfl
  · exact s.enterWithNote_lastSent .out .left
  · exact s.enterWithNote_lastSent .out .left
  · rfl
  · rfl
  · rfl

theorem joinCommand_lastSent : s.joinCommand.1.lastSent = s.lastSent := by
  unfold State.joinCommand
  split <;> rfl

/-! ## The window of registers and the resets -/

/-- R96: no word of the register window depends on the last channel sent. -/
theorem readWord_setLastSent (x : ChannelNo) (index : Fin 16) : (s.setLastSent x).readWord index = s.readWord index :=
  rfl

/-- R96: what a pin reset and STATION_RESET clear alike makes the last channel sent 3. -/
@[simp] theorem clearBlocks_lastSent : s.clearBlocks.lastSent = 3 := rfl

@[simp] theorem comeUp_lastSent (pins : StrapPins) : (s.comeUp pins).lastSent = s.lastSent := rfl

end

/-! ## The turn picker's choice (R95, R96) -/

section

variable {s : State}

/-- R95: the channel after the last channel sent is chosen whenever it is READY. -/
theorem turnPick_of_next_ready (h : (s.chan (s.lastSent + 1)).state = .ready) :
    s.turnPick = some (s.lastSent + 1) := by
  have hready : s.isReady (s.lastSent + 1) = true := by simp [State.isReady, h]
  simp [State.turnPick, channelsAfter, hready]

/-- R95: the choice depends on the last channel sent and on which channels are READY, and on nothing else. -/
theorem turnPick_of_ready_iff {ready : List ChannelNo} (h : ∀ c, (s.chan c).state = .ready ↔ c ∈ ready) :
    s.turnPick = (channelsAfter s.lastSent).find? fun c => decide (c ∈ ready) := by
  have hready : s.isReady = fun c => decide (c ∈ ready) := by
    funext c
    rw [Bool.eq_iff_iff, State.isReady, beq_iff_eq, decide_eq_true_iff]
    exact h c
  rw [State.turnPick, hready]

/-- R6, R95, R96: what a win does to the last channel sent: nothing, or it becomes the turn picker's choice, whose
tenure the station then drives. -/
theorem takeWin_lastSent (s : State) (tenureWon : Bool) (won : Option Claim) :
    (s.takeWin tenureWon won).lastSent = s.lastSent ∨
      (s.turnPick = some (s.takeWin tenureWon won).lastSent ∧
        (s.takeWin tenureWon won).bus.drive = .tenure (s.takeWin tenureWon won).lastSent) := by
  unfold State.takeWin
  split
  · unfold State.sendTenure
    split
    next c hpick => exact .inr ⟨hpick, rfl⟩
    next => exact .inl rfl
  · exact .inl rfl
  · exact .inl rfl

end

end Sys2Proof.Machine.State

namespace Sys2Proof.Machine

/-! ## The commands that leave the last channel sent as it was (R96) -/

/-- Where the answer is a next state, the last channel sent is that of `s`. -/
def Answered.KeepsLastSent (s : State) : Answered → Prop
  | .next t => t.lastSent = s.lastSent
  | .fault _ => True
  | .refused _ => True

namespace Answered

@[simp] theorem keepsLastSent_next (s t : State) : KeepsLastSent s (.next t) ↔ t.lastSent = s.lastSent := Iff.rfl

@[simp] theorem keepsLastSent_fault (s : State) (r : Fault) : KeepsLastSent s (.fault r) := trivial

/-- R165: a host command keeps the last channel sent, where its owner's act does. -/
theorem keepsLastSent_takeCommand (s : State) (code : BitVec 8) {act : State → State × Reply}
    (h : ∀ u, (act u).1.lastSent = u.lastSent) : KeepsLastSent s (s.takeCommand code act) := by
  unfold State.takeCommand
  split
  · rfl
  · exact h _

end Answered

open Answered

section

variable (s : State)

/-! ### Contests -/

theorem execStartMark_keepsLastSent : KeepsLastSent s (execStartMark s) := by
  unfold execStartMark
  repeat' split
  · rfl
  · exact s.endedByStartMark_lastSent
  · rfl

theorem execContestLoss_keepsLastSent : KeepsLastSent s (execContestLoss s) := by
  unfold execContestLoss
  split
  · rfl
  · trivial

theorem execContestSilence_keepsLastSent : KeepsLastSent s (execContestSilence s) := by
  unfold execContestSilence
  repeat' split
  · rfl
  · trivial
  · rfl

theorem execStepInSilence_keepsLastSent : KeepsLastSent s (execStepInSilence s) := by
  unfold execStepInSilence
  repeat' split
  · rfl
  · trivial
  · rfl

/-! ### Tenures -/

theorem execTenureHeader_keepsLastSent (w : WireHeader) : KeepsLastSent s (execTenureHeader w s) := by
  unfold execTenureHeader
  repeat' split
  · exact s.activity.takeHeader_lastSent _
  · rfl
  · trivial
  · rfl

theorem execFrame_keepsLastSent (f : WireFrame) : KeepsLastSent s (execFrame f s) := by
  unfold execFrame
  repeat' split
  · exact s.activity.takeFrameArrival_lastSent _ f
  · rfl
  · rfl
  · trivial
  · rfl
  · trivial

theorem execVerdictMark_keepsLastSent : KeepsLastSent s (execVerdictMark s) := by
  unfold execVerdictMark
  repeat' split
  · rfl
  · trivial
  · rfl

theorem execVerdictSample_keepsLastSent (lines : Lines) : KeepsLastSent s (execVerdictSample lines s) := by
  unfold execVerdictSample
  repeat' split
  · exact s.tenureEnd_lastSent _
  · trivial
  · rfl

theorem execTruncation_keepsLastSent : KeepsLastSent s (execTruncation s) := by
  unfold execTruncation
  repeat' split
  · exact s.tenureEnd_lastSent _
  · trivial
  · rfl

theorem execEchoWithdrawal_keepsLastSent : KeepsLastSent s (execEchoWithdrawal s) := by
  unfold execEchoWithdrawal
  split
  · exact (s.setBus _).reportWithdrawal_lastSent _
  · trivial

theorem execEchoMismatchTenure_keepsLastSent : KeepsLastSent s (execEchoMismatchTenure s) := by
  unfold execEchoMismatchTenure
  split
  · exact (s.setBus _).channelOutcome_lastSent _ _
  · trivial

/-! ### Censuses and the membership timers -/

theorem execEchoMismatchCensus_keepsLastSent : KeepsLastSent s (execEchoMismatchCensus s) := by
  unfold execEchoMismatchCensus
  repeat' split
  · rfl
  · exact (s.setBus _).censusCollision_lastSent
  · trivial
  · trivial

theorem execCensusHeader_keepsLastSent (w : WireCensusHeader) : KeepsLastSent s (execCensusHeader w s) := by
  unfold execCensusHeader
  repeat' split
  · exact (s.activity.setBus _).openCensus_lastSent _
  · rfl
  · trivial
  · rfl

theorem execCensusSlotTime_keepsLastSent : KeepsLastSent s (execCensusSlotTime s) := by
  unfold execCensusSlotTime
  repeat' split
  all_goals simp

theorem execSlotMark_keepsLastSent : KeepsLastSent s (execSlotMark s) := by
  unfold execSlotMark
  split
  · exact (s.activity.setBus _).followSlot_lastSent _
  · rfl

theorem execListSlotAnswer_keepsLastSent (a : WireListAnswer) : KeepsLastSent s (execListSlotAnswer a s) := by
  unfold execListSlotAnswer
  repeat' split
  · rfl
  · exact s.activity.markAnswered.takeListAnswer_lastSent _ a
  · trivial
  · trivial
  · rfl
  · trivial

theorem execJoinSlotAnswer_keepsLastSent (a : WireJoinAnswer) : KeepsLastSent s (execJoinSlotAnswer a s) := by
  unfold execJoinSlotAnswer
  repeat' split
  · rfl
  · exact s.activity.markAnswered.takeJoinAnswer_lastSent _ _ a
  · trivial
  · trivial
  · rfl

theorem execEndMark_keepsLastSent : KeepsLastSent s (execEndMark s) := by
  unfold execEndMark
  split
  · exact s.activity.censusEnd_lastSent
  · rfl

theorem execCensusAbandonSilence_keepsLastSent : KeepsLastSent s (execCensusAbandonSilence s) := by
  unfold execCensusAbandonSilence
  repeat' split
  · exact s.abandonCensus_lastSent
  · trivial
  · rfl

theorem execIdleTimerExpiry_keepsLastSent : KeepsLastSent s (execIdleTimerExpiry s) := by
  unfold execIdleTimerExpiry
  split
  · rfl
  · trivial

theorem execFormationTimerExpiry_keepsLastSent : KeepsLastSent s (execFormationTimerExpiry s) := by
  unfold execFormationTimerExpiry
  split
  · rfl
  · trivial

/-! ### PACE and the memory port -/

theorem execPaceActive_keepsLastSent (c : ChannelNo) (level : Bool) : KeepsLastSent s (execPaceActive c level s) := by
  unfold execPaceActive
  dsimp only
  split
  · exact (s.setPace _).requestRead_lastSent c
  · rfl

theorem execFrameReadCompletion_keepsLastSent (words : List Word) :
    KeepsLastSent s (execFrameReadCompletion words s) := by
  unfold execFrameReadCompletion
  repeat' split
  · exact s.takeFrame_lastSent _ _ _
  · trivial
  · trivial
  · trivial

theorem execReadFault_keepsLastSent : KeepsLastSent s (execReadFault s) := by
  unfold execReadFault
  split
  · exact (s.setChan _ _).endSegment_lastSent _ _ _
  · trivial

theorem execStaleReadCompletion_keepsLastSent : KeepsLastSent s (execStaleReadCompletion s) := by
  unfold execStaleReadCompletion
  repeat' split
  · exact s.dropStale_lastSent _
  · trivial
  · trivial

theorem execLandingWriteCompletion_keepsLastSent : KeepsLastSent s (execLandingWriteCompletion s) := by
  unfold execLandingWriteCompletion
  repeat' split
  · simp
  · trivial
  · trivial

theorem execSplitFirstPartCompletion_keepsLastSent : KeepsLastSent s (execSplitFirstPartCompletion s) := by
  unfold execSplitFirstPartCompletion
  repeat' split
  · trivial
  · rfl
  · trivial

theorem execWriteFault_keepsLastSent : KeepsLastSent s (execWriteFault s) := by
  unfold execWriteFault
  split
  · simp
  · trivial

theorem execOrphanCompletion_keepsLastSent : KeepsLastSent s (execOrphanCompletion s) := by
  unfold execOrphanCompletion
  split
  · rfl
  · trivial

/-! ### The register window, and the release of RESET -/

theorem execUnknownCommand_keepsLastSent (code : BitVec 8) : KeepsLastSent s (execUnknownCommand code s) := by
  unfold execUnknownCommand
  split
  · trivial
  · exact keepsLastSent_takeCommand s code fun _ => rfl

theorem execQueryChannel_keepsLastSent : KeepsLastSent s (execQueryChannel s) := by
  unfold execQueryChannel
  exact keepsLastSent_takeCommand s _ fun u => u.onChannel_lastSent _ fun _ => rfl

theorem execPop_keepsLastSent (enable : Bool) : KeepsLastSent s (execPop enable s) := by
  unfold execPop
  split
  · rfl
  · exact (s.setEnable enable).popRecord_lastSent

theorem execSetInterruptEnable_keepsLastSent (enable : Bool) : KeepsLastSent s (execSetInterruptEnable enable s) := by
  unfold execSetInterruptEnable
  split
  · rfl
  · rfl

theorem execRegisterWrite_keepsLastSent (w : PlainWord) (value : Word) (enables : BitVec 4) :
    KeepsLastSent s (execRegisterWrite w value enables s) := by
  unfold execRegisterWrite
  repeat' split
  all_goals simp

theorem execResetReleased_keepsLastSent (pins : StrapPins) : KeepsLastSent s (execResetReleased pins s) := by
  unfold execResetReleased
  split
  · rfl
  · trivial

end

/-! ## What each command does to the last channel sent (R96) -/

/-- The commands at which R96 lets the last channel sent change: the turn picker's choice, and the resets. -/
def mayChangeLastSent : Instr → Bool
  | .claimCodeEnd _ | .resetAsserted | .stationReset _ => true
  | _ => false

/-- R96: every command but the turn picker's and the resets keeps the last channel sent. -/
theorem exec_keepsLastSent (i : Instr) (s : State) (h : mayChangeLastSent i = false) : KeepsLastSent s (exec i s) := by
  cases i with
  | claimCodeEnd code => cases h
  | resetAsserted => cases h
  | stationReset pins => cases h
  | startMark => exact execStartMark_keepsLastSent s
  | contestLoss => exact execContestLoss_keepsLastSent s
  | contestSilence => exact execContestSilence_keepsLastSent s
  | stepInSilence => exact execStepInSilence_keepsLastSent s
  | tenureHeader w => exact execTenureHeader_keepsLastSent s w
  | frame f => exact execFrame_keepsLastSent s f
  | verdictMark => exact execVerdictMark_keepsLastSent s
  | verdictSample lines => exact execVerdictSample_keepsLastSent s lines
  | truncation => exact execTruncation_keepsLastSent s
  | echoWithdrawal => exact execEchoWithdrawal_keepsLastSent s
  | echoMismatchTenure => exact execEchoMismatchTenure_keepsLastSent s
  | echoMismatchCensus => exact execEchoMismatchCensus_keepsLastSent s
  | censusHeader w => exact execCensusHeader_keepsLastSent s w
  | censusSlotTime => exact execCensusSlotTime_keepsLastSent s
  | slotMark => exact execSlotMark_keepsLastSent s
  | listSlotAnswer a => exact execListSlotAnswer_keepsLastSent s a
  | joinSlotAnswer a => exact execJoinSlotAnswer_keepsLastSent s a
  | endMark => exact execEndMark_keepsLastSent s
  | censusAbandonSilence => exact execCensusAbandonSilence_keepsLastSent s
  | idleTimerExpiry => exact execIdleTimerExpiry_keepsLastSent s
  | formationTimerExpiry => exact execFormationTimerExpiry_keepsLastSent s
  | resetReleased pins => exact execResetReleased_keepsLastSent s pins
  | paceActive c level => exact execPaceActive_keepsLastSent s c level
  | frameReadCompletion words => exact execFrameReadCompletion_keepsLastSent s words
  | readFault => exact execReadFault_keepsLastSent s
  | staleReadCompletion => exact execStaleReadCompletion_keepsLastSent s
  | landingWriteCompletion => exact execLandingWriteCompletion_keepsLastSent s
  | splitFirstPartCompletion => exact execSplitFirstPartCompletion_keepsLastSent s
  | writeFault => exact execWriteFault_keepsLastSent s
  | orphanCompletion => exact execOrphanCompletion_keepsLastSent s
  | push => exact keepsLastSent_takeCommand s _ State.push_lastSent
  | stop => exact keepsLastSent_takeCommand s _ fun u => u.onChannel_lastSent _ u.stopChannel_lastSent
  | resume => exact keepsLastSent_takeCommand s _ fun u => u.onChannel_lastSent _ u.resumeChannel_lastSent
  | flush => exact keepsLastSent_takeCommand s _ fun u => u.onChannel_lastSent _ u.flushChannel_lastSent
  | queryChannel => exact execQueryChannel_keepsLastSent s
  | openWindow => exact keepsLastSent_takeCommand s _ State.openCommand_lastSent
  | closeWindow => exact keepsLastSent_takeCommand s _ fun u => u.onWindow_lastSent _ u.closeCommand_lastSent
  | consume => exact keepsLastSent_takeCommand s _ fun u => u.onWindow_lastSent _ u.consumeCommand_lastSent
  | rearm => exact keepsLastSent_takeCommand s _ fun u => u.onWindow_lastSent _ u.rearmCommand_lastSent
  | queryWindow => exact keepsLastSent_takeCommand s _ fun u => u.onWindow_lastSent _ u.queryWindow_lastSent
  | leave => exact keepsLastSent_takeCommand s _ State.leaveCommand_lastSent
  | join => exact keepsLastSent_takeCommand s _ State.joinCommand_lastSent
  | unknownCommand code => exact execUnknownCommand_keepsLastSent s code
  | pop enable => exact execPop_keepsLastSent s enable
  | setInterruptEnable enable => exact execSetInterruptEnable_keepsLastSent s enable
  | registerWrite w value enables => exact execRegisterWrite_keepsLastSent s w value enables

section

variable {s t : State}

/-- R96: at the end of a claim code the last channel sent stays, or becomes the turn picker's choice. -/
theorem claimCodeEnd_lastSent {code : BitVec 5} (h : exec (.claimCodeEnd code) s = .next t) :
    t.lastSent = s.lastSent ∨ (s.turnPick = some t.lastSent ∧ t.bus.drive = .tenure t.lastSent) := by
  replace h : execClaimCodeEnd code s = .next t := h
  unfold execClaimCodeEnd at h
  split at h
  · by_cases hphase : s.bus.phase = .contest
    · rw [if_pos hphase] at h
      cases h
      exact State.takeWin_lastSent (s.setBus _) _ _
    · rw [if_neg hphase] at h
      cases h
  · cases h
    exact .inl rfl

/-- R1: a station that is DOWN takes no claim code. -/
theorem claimCodeEnd_of_down {code : BitVec 5} (hdown : s.membership.link = .down) :
    exec (.claimCodeEnd code) s = .next s := by
  show execClaimCodeEnd code s = .next s
  simp [execClaimCodeEnd, State.follows, hdown]

/-- R96: RESET makes the last channel sent 3. -/
theorem resetAsserted_lastSent (h : exec .resetAsserted s = .next t) : t.lastSent = 3 := by
  cases h
  rfl

/-- R96, R170: STATION_RESET makes the last channel sent 3, and is ignored while RESET is asserted. -/
theorem stationReset_lastSent {pins : StrapPins} (h : exec (.stationReset pins) s = .next t) :
    (s.membership.link = .down ∧ t = s) ∨ (s.membership.link ≠ .down ∧ t.lastSent = 3) := by
  replace h : execStationReset pins s = .next t := h
  unfold execStationReset at h
  split at h
  next hdown =>
    cases h
    exact .inl ⟨hdown, rfl⟩
  next hup =>
    cases h
    exact .inr ⟨hup, by simp⟩

/-- R96: the last channel sent changes only by the turn picker's choice and by resets. -/
theorem exec_lastSent {i : Instr} (h : exec i s = .next t) :
    t.lastSent = s.lastSent ∨
      (∃ code, i = .claimCodeEnd code ∧ s.turnPick = some t.lastSent ∧ t.bus.drive = .tenure t.lastSent) ∨
      (t.lastSent = 3 ∧ (i = .resetAsserted ∨ ∃ pins, i = .stationReset pins)) := by
  cases hi : mayChangeLastSent i with
  | false =>
    have hkeeps := exec_keepsLastSent i s hi
    rw [h] at hkeeps
    exact .inl hkeeps
  | true =>
    unfold mayChangeLastSent at hi
    split at hi
    next code =>
      rcases claimCodeEnd_lastSent h with hsame | hchoice
      · exact .inl hsame
      · exact .inr (.inl ⟨code, rfl, hchoice⟩)
    next => exact .inr (.inr ⟨resetAsserted_lastSent h, .inl rfl⟩)
    next pins =>
      rcases stationReset_lastSent h with ⟨_, rfl⟩ | ⟨_, hthree⟩
      · exact .inl rfl
      · exact .inr (.inr ⟨hthree, .inr ⟨pins, rfl⟩⟩)
    next => cases hi

/-- R96: while RESET is asserted the last channel sent stays 3, whatever comes. -/
theorem lastSent_of_down {i : Instr} (hdown : s.membership.link = .down) (hthree : s.lastSent = 3)
    (h : exec i s = .next t) : t.lastSent = 3 := by
  rcases exec_lastSent h with hsame | ⟨code, rfl, _⟩ | ⟨hreset, _⟩
  · exact hsame.trans hthree
  · rw [claimCodeEnd_of_down hdown] at h
    cases h
    exact hthree
  · exact hreset

end

/-- Figure 5-6: in each row the first READY channel, counted from the one after the last channel sent, is the choice. -/
theorem figure_5_6_choice :
    ∀ row ∈ ([(3, [1, 2], some 1), (1, [0, 2, 3], some 2), (2, [0, 2], some 0), (0, [0], some 0), (0, [], none)] :
        List (ChannelNo × List ChannelNo × Option ChannelNo)),
      (channelsAfter row.1).find? (fun c => decide (c ∈ row.2.1)) = row.2.2 := by
  decide

/-- Settles O9: what each command does to the last channel sent is said once (`exec_lastSent`); the rest is about the
view of the registers and about the turn picker's choice. -/
theorem lastChannelSent : Obligations.LastChannelSent := by
  refine ⟨fun i s t h => exec_lastSent h, fun s t h => resetAsserted_lastSent h, ?stationReset,
    fun i s t hdown hthree h => lastSent_of_down hdown hthree h, fun s x index => s.readWord_setLastSent x index,
    ?afterReset, ?figure⟩
  case stationReset =>
    intro s t pins hup h
    rcases stationReset_lastSent h with ⟨hdown, _⟩ | ⟨_, hthree⟩
    · exact absurd hdown hup
    · exact hthree
  case afterReset =>
    intro s hthree hready
    have hnext : s.lastSent + 1 = 0 := by rw [hthree]; rfl
    rw [← hnext] at hready ⊢
    exact State.turnPick_of_next_ready hready
  case figure =>
    intro s row hrow hlast hready
    rw [State.turnPick_of_ready_iff hready, hlast]
    exact figure_5_6_choice row hrow

end Sys2Proof.Machine

namespace Sys2Proof.Machine

/-! ## INT and the log control word (R163, Figure 10-8) -/

theorem flagCode_lt_two (b : Bool) : flagCode b < 2 := by
  cases b <;> decide

theorem flagCode_eq_one_iff (b : Bool) : flagCode b = 1 ↔ b = true := by
  cases b <;> decide

/-- R163: INT is active exactly while the log holds a record and the interrupt enable is set. -/
theorem State.intLevel_iff (s : State) :
    s.intLevel = true ↔ 0 < s.log.records.length ∧ s.cmd.intEnable = true := by
  rw [State.intLevel, Bool.and_eq_true, Bool.not_eq_true', List.isEmpty_eq_false_iff, List.length_pos_iff]

/-- R168: a read of word 11 returns the log control word, unless RESET is asserted. -/
theorem State.readWord_logControl {s : State} (hup : s.membership.link ≠ .down) :
    s.readWord 11 = s.logControlWord := if_neg hup

/-- Figure 10-8: bit 2 of the log control word is the level of INT; the enable bit ends below it, and the number of
records begins above it. -/
theorem State.logControlWord_int (s : State) : getField s.logControlWord 2 1 = flagCode s.intLevel := by
  have henable : getField (putField 0 (flagCode s.cmd.intEnable)) 2 1 = 0 :=
    getField_putField_above (m := 1) (flagCode_lt_two _) (by decide)
  have hlevel : getField (putField 2 (flagCode s.intLevel)) 2 1 = flagCode s.intLevel :=
    getField_putField_self (flagCode_lt_two _) (by decide)
  have hrecords : getField (putField 8 s.log.records.length) 2 1 = 0 := getField_putField_below (by decide)
  rw [State.logControlWord, getField_or, getField_or, henable, hlevel, hrecords, Nat.zero_or, Nat.or_zero]

/-- R163, Figure 10-8: bit 2 of the log control word, read as one bit. -/
theorem State.logControlWord_getLsbD_two (s : State) : s.logControlWord.getLsbD 2 = s.intLevel := by
  rw [Bool.eq_iff_iff, ← getField_bit, s.logControlWord_int, flagCode_eq_one_iff]

/-- Settles O51: the level is the log being nonempty together with the enable, and word 11 carries it in bit 2. -/
theorem interruptLine : Obligations.InterruptLine := by
  intro s
  refine ⟨s.intLevel_iff, fun hup => ?_⟩
  rw [State.readWord_logControl hup, s.logControlWord_getLsbD_two]

/-! ## The register window while RESET is asserted (R170) -/

section

variable {s : State} (hdown : s.membership.link = .down)

include hdown

/-- R170: while RESET is asserted every word reads 0. -/
theorem State.readWord_of_down (index : Fin 16) : s.readWord index = 0 := if_pos hdown

theorem execRegisterWrite_of_down (w : PlainWord) (value : Word) (enables : BitVec 4) :
    execRegisterWrite w value enables s = .next s := if_pos hdown

/-- R170: no POP is made while RESET is asserted, and the enable bit of its write is not taken. -/
theorem execPop_of_down (enable : Bool) : execPop enable s = .next s := if_pos hdown

theorem execSetInterruptEnable_of_down (enable : Bool) : execSetInterruptEnable enable s = .next s := if_pos hdown

/-- R170: an unknown code is not even stored while RESET is asserted. -/
theorem execUnknownCommand_of_down {code : BitVec 8} (hunknown : knownCodes.contains code = false) :
    execUnknownCommand code s = .next s := by
  rw [execUnknownCommand, hunknown, if_neg Bool.false_ne_true, s.takeCommand_down _ _ hdown]

theorem execStationReset_of_down (pins : StrapPins) : execStationReset pins s = .next s := if_pos hdown

/-- R170: no command is taken while RESET is asserted, whichever code is written. -/
theorem exec_of_commandCode_of_down {i : Instr} {code : BitVec 8} (hcode : i.commandCode = some code)
    (hwf : i.wellFormed = true) : exec i s = .next s := by
  cases i with
  | push | stop | resume | flush | queryChannel
  | openWindow | closeWindow | consume | rearm | queryWindow | leave | join =>
    simp only [exec, execPush, execStop, execResume, execFlush, execQueryChannel, execOpen, execClose, execConsume,
      execRearm, execQueryWindow, execLeave, execJoin, s.takeCommand_down _ _ hdown]
  | stationReset pins => exact execStationReset_of_down hdown pins
  | unknownCommand code => exact execUnknownCommand_of_down hdown (by simpa [Instr.wellFormed] using hwf)
  | _ => cases hcode

end

/-- Settles O52: reads, plain register writes and log control writes have their rules above; the rest are writes of a
code, which take no command (`exec_of_commandCode_of_down`). -/
theorem registersWhileResetIsAsserted : Obligations.RegistersWhileResetIsAsserted := by
  intro s hdown
  have hignored {i : Instr} (code : BitVec 8) (hcode : i.commandCode = some code) (hwf : i.wellFormed = true) :
      exec i s = .next s := exec_of_commandCode_of_down hdown hcode hwf
  exact
    ⟨State.readWord_of_down hdown, execRegisterWrite_of_down hdown,
      fun enable => ⟨execPop_of_down hdown enable, execSetInterruptEnable_of_down hdown enable⟩,
      fun _ hunknown => execUnknownCommand_of_down hdown hunknown, execStationReset_of_down hdown,
      hignored 0x01 rfl rfl, hignored 0x02 rfl rfl, hignored 0x03 rfl rfl, hignored 0x04 rfl rfl, hignored 0x05 rfl rfl,
      hignored 0x08 rfl rfl, hignored 0x09 rfl rfl, hignored 0x0A rfl rfl, hignored 0x0B rfl rfl, hignored 0x0C rfl rfl,
      hignored 0x10 rfl rfl, hignored 0x11 rfl rfl⟩

end Sys2Proof.Machine

namespace Sys2Proof.Machine

/-! ## Predicates kept by a step

A predicate that `exec` keeps and that does not look at the queue of commands is kept by `step`. -/

/-- Where the answer is a next state, it satisfies `P`. -/
def Answered.Leads (P : State → Prop) : Answered → Prop
  | .next t => P t
  | .fault _ => True
  | .refused _ => True

namespace Answered

@[simp] theorem leads_next (P : State → Prop) (t : State) : Leads P (.next t) ↔ P t := Iff.rfl

@[simp] theorem leads_fault (P : State → Prop) (r : Fault) : Leads P (.fault r) := trivial

theorem Leads.of_next {P : State → Prop} {a : Answered} {t : State} (h : Leads P a) (ha : a = .next t) : P t := by
  rw [ha] at h
  exact h

/-- R165: a host command leads to `P` where its owner's act does, whatever the port's code and reply. -/
theorem leads_takeCommand {P : State → Prop} {s : State} (code : BitVec 8) {act : State → State × Reply}
    (hcmd : ∀ u x, P u → P (u.setCmd x)) (hs : P s) (hact : ∀ u, P u → P (act u).1) :
    Leads P (s.takeCommand code act) := by
  unfold State.takeCommand
  split
  · exact hs
  · exact hcmd _ _ (hact _ (hcmd _ _ hs))

end Answered

open Answered

/-- R166: a command that names a channel keeps `P` where its act on every channel does. -/
theorem State.onChannel_keeps {P : State → Prop} {s : State} {act : ChannelNo → State × Reply} (hs : P s)
    (h : ∀ c, P (act c).1) : P (s.onChannel act).1 := by
  unfold State.onChannel
  split
  · exact hs
  · exact h _

/-- R126: a command that names a window keeps `P` where its act on every window does. -/
theorem State.onWindow_keeps {P : State → Prop} {s : State} {act : WindowNo → State × Reply} (hs : P s)
    (h : ∀ w, P (act w).1) : P (s.onWindow act).1 := by
  unfold State.onWindow
  split
  · exact hs
  · exact h _

/-- One step keeps what every command keeps. -/
theorem step_keeps {P : State → Prop} (hpending : ∀ s rest, P s → P { s with pending := rest })
    (hexec : ∀ i s, P s → Leads P (exec i s)) {s t : State} (hs : P s) (h : step s = .next t) : P t := by
  unfold step at h
  split at h
  · cases h
    exact hs
  · exact (hexec _ _ (hpending s _ hs)).of_next h

/-! ## Conditions equivalent to one another -/

theorem ite_congr_of_iff {α : Type} {b c : Prop} [Decidable b] [Decidable c] {x y u v : α} (h : b ↔ c) (hx : x = u)
    (hy : y = v) : (if b then x else y) = if c then u else v :=
  ite_congr (propext h) (fun _ => hx) fun _ => hy

/-! ## The order list and the references -/

/-- R24: a well-formed list holds no ID twice at any order of its entries. -/
theorem WellFormedList.perm {l l' : List Entry} (h : WellFormedList l) (hp : l'.Perm l) : WellFormedList l' :=
  ⟨hp.length_eq ▸ h.1, ((hp.map _).nodup_iff).2 h.2⟩

theorem wellFormedList_nil : WellFormedList [] := ⟨Nat.zero_le _, List.nodup_nil⟩

/-- R30: a rotation permutes the list. -/
theorem moveToBottom_perm (list : List Entry) (i : Nat) : (moveToBottom list i).Perm list := by
  unfold moveToBottom
  split
  next e he =>
    have hi : i < list.length := (List.getElem?_eq_some_iff.1 he).1
    have hget : list[i] = e := (List.getElem?_eq_some_iff.1 he).2
    have hsplit : list.take i ++ e :: list.drop (i + 1) = list := by
      rw [← hget, ← List.drop_eq_getElem_cons hi, List.take_append_drop]
    have hback : (e :: list.eraseIdx i).Perm list := by
      rw [List.eraseIdx_eq_take_drop_succ]
      exact List.perm_middle.symm.trans (.of_eq hsplit)
    exact (List.perm_append_singleton e _).trans hback
  next => exact List.Perm.refl _

theorem rotated_perm (mode : BusMode) (list : List Entry) (h : HeaderView) (rank : Option Nat) :
    (rotated mode list h rank).Perm list := by
  unfold rotated
  split
  · exact List.Perm.refl _
  · split
    · exact moveToBottom_perm list _
    · exact List.Perm.refl _

end Sys2Proof.Machine

namespace Sys2Proof.Machine

/-! ## The lists of a census (R24, R47, R50) -/

theorem mem_allSixteen (id : StationId) : id ∈ allSixteen := by
  revert id
  decide

/-- R24: sixteen station IDs are all there are, so a list without an ID twice is short enough. -/
theorem wellFormedList_iff (l : List Entry) : WellFormedList l ↔ (l.map fun e => e.id).Nodup := by
  refine ⟨fun h => h.2, fun h => ⟨?_, h⟩⟩
  have hcard : (l.map fun e => e.id).length ≤ allSixteen.length :=
    h.length_le_of_subset fun id _ => mem_allSixteen id
  rwa [List.length_map] at hcard

theorem WellFormedList.of_ids_sublist {l l' : List Entry} (h : WellFormedList l)
    (hsub : (l'.map fun e => e.id).Sublist (l.map fun e => e.id)) : WellFormedList l' :=
  (wellFormedList_iff l').2 (h.2.sublist hsub)

theorem distinctIds_iff (l : List Entry) : distinctIds l = true ↔ (l.map fun e => e.id).Nodup := by
  induction l with
  | nil => simp [distinctIds]
  | cons e rest ih => simp [distinctIds, ih]

/-- R50: an entry that stays keeps its ID. -/
theorem survives_id {answers : List (Option HeardAnswer)} {i : Nat} {e e' : Entry}
    (h : survives answers i e = some e') : e'.id = e.id := by
  have hmiss {x : Entry} (hx : missOnce e = some x) : x.id = e.id := by
    unfold missOnce at hx
    split at hx
    · cases hx
      rfl
    · cases hx
  unfold survives at h
  split at h
  · split at h
    · split at h
      · cases h
      · cases h
        rfl
    · exact hmiss h
  · exact hmiss h
  · exact hmiss h

/-- R50, steps 2 to 4: the entries that stay are found along the list with its positions. -/
theorem survivors_eq_filterMap (answers : List (Option HeardAnswer)) (l : List Entry) (i : Nat) :
    survivors answers i l = (l.zipIdx i).filterMap fun e => survives answers e.2 e.1 := by
  induction l generalizing i with
  | nil => rfl
  | cons e rest ih =>
    rw [survivors, List.zipIdx_cons, List.filterMap_cons, ← ih]
    cases survives answers i e <;> rfl

/-- R50: the entries that stay keep their order. -/
theorem survivors_ids_sublist (answers : List (Option HeardAnswer)) (l : List Entry) (i : Nat) :
    ((survivors answers i l).map fun e => e.id).Sublist (l.map fun e => e.id) := by
  induction l generalizing i with
  | nil => exact List.Sublist.refl _
  | cons e rest ih =>
    unfold survivors
    split
    next e' he =>
      rw [List.map_cons, List.map_cons, survives_id he]
      exact (ih _).cons_cons _
    next => exact (ih _).cons _

theorem allSixteen_pairwise : allSixteen.Pairwise (· < ·) := by decide

theorem joinerEntries_ids (joiners : List StationId) :
    ((joinerEntries joiners).map fun e => e.id) = allSixteen.filter fun id => joiners.contains id := by
  rw [joinerEntries, List.map_map]
  exact List.map_id _

/-- R50, steps 2 to 5: the entries of the reference list that stay and have not answered in a join slot. -/
def keptEntries (r : CensusRecord) : List Entry :=
  (survivors r.answers 0 (r.reference.getD [])).filter fun e => !(r.joiners.contains e.id)

theorem newList_rotate {r : CensusRecord} (h : r.header.mode = .rotate) :
    newList r = keptEntries r ++ joinerEntries r.joiners := by
  simp [newList, keptEntries, h]

theorem newList_fixed {r : CensusRecord} (h : r.header.mode = .fixed) :
    newList r = ascending (keptEntries r ++ joinerEntries r.joiners) := by
  simp [newList, keptEntries, h]

/-- R50, step 5: the new list before its order is chosen holds no ID twice. -/
theorem kept_append_joiners_nodup {r : CensusRecord} (h : WellFormedList (r.reference.getD [])) :
    ((keptEntries r ++ joinerEntries r.joiners).map fun e => e.id).Nodup := by
  rw [List.map_append, joinerEntries_ids, List.nodup_append]
  refine ⟨?kept, (allSixteen_pairwise.imp fun h => Fin.ne_of_lt h).filter _, ?disjoint⟩
  case kept =>
    exact (h.2.sublist (survivors_ids_sublist r.answers _ 0)).sublist (List.filter_sublist.map _)
  case disjoint =>
    rintro id hkept _ hjoined rfl
    obtain ⟨e, he, rfl⟩ := List.mem_map.1 hkept
    have hnot : r.joiners.contains e.id = false := by simpa using (List.mem_filter.1 he).2
    have hin : r.joiners.contains e.id = true := (List.mem_filter.1 hjoined).2
    rw [hnot] at hin
    cases hin

/-- R32, R50, step 6: the entries placed in ascending order are the list's own. -/
theorem mem_of_mem_ascending {l : List Entry} {e : Entry} (h : e ∈ ascending l) : e ∈ l := by
  obtain ⟨id, _, hfind⟩ := List.mem_filterMap.1 h
  exact List.mem_of_find?_eq_some hfind

/-- R32: ascending order, with no ID twice. -/
theorem ascending_ids_pairwise (l : List Entry) : ((ascending l).map fun e => e.id).Pairwise (· < ·) := by
  rw [List.pairwise_map, ascending, List.pairwise_filterMap]
  refine allSixteen_pairwise.imp fun {a b} hab x hx y hy => ?_
  have hxa : x.id = a := by simpa using List.find?_some hx
  have hyb : y.id = b := by simpa using List.find?_some hy
  rwa [hxa, hyb]

/-- R24: where no ID stands twice, an entry's ID tells the entry. -/
theorem eq_of_id_eq {l : List Entry} (h : (l.map fun e => e.id).Nodup) {d e : Entry} (hd : d ∈ l) (he : e ∈ l)
    (hid : d.id = e.id) : d = e := by
  have hdiffer : l.Pairwise fun a b => a.id ≠ b.id := List.pairwise_map.1 h
  exact List.Pairwise.forall_of_forall_of_flip (R := fun a b => a.id = b.id → a = b) (fun _ _ _ => rfl)
    (hdiffer.imp fun hne heq => absurd heq hne) (hdiffer.imp fun hne heq => absurd heq.symm hne) hd he hid

/-- R32: no entry is lost where no ID stands twice. -/
theorem mem_ascending {l : List Entry} (h : (l.map fun e => e.id).Nodup) {e : Entry} (he : e ∈ l) :
    e ∈ ascending l := by
  refine List.mem_filterMap.2 ⟨e.id, mem_allSixteen e.id, ?_⟩
  have hsome : (l.find? fun d => d.id == e.id).isSome := List.find?_isSome.2 ⟨e, he, by simp⟩
  obtain ⟨d, hd⟩ := Option.isSome_iff_exists.1 hsome
  have hid : d.id = e.id := by simpa using List.find?_some hd
  rw [hd, eq_of_id_eq h (List.mem_of_find?_eq_some hd) he hid]

/-- R24, R50: the new list of a census is well formed where its reference is. -/
theorem newList_wellFormed {r : CensusRecord} (h : WellFormedList (r.reference.getD [])) :
    WellFormedList (newList r) := by
  rw [wellFormedList_iff]
  cases hmode : r.header.mode with
  | rotate =>
    rw [newList_rotate hmode]
    exact kept_append_joiners_nodup h
  | fixed =>
    rw [newList_fixed hmode]
    exact (ascending_ids_pairwise _).imp fun h => Fin.ne_of_lt h

/-- R47, R48: an absent reference is the empty list. -/
theorem reference_wellFormed {r : CensusRecord} (h : ∀ reference, r.reference = some reference → WellFormedList reference) :
    WellFormedList (r.reference.getD []) := by
  cases hr : r.reference with
  | none => exact wellFormedList_nil
  | some reference => exact h reference hr

theorem listOfCopy_eq_some {entries : List WireEntry} {list : List Entry} (h : listOfCopy entries = some list) :
    entries.mapM entryOfWire = some list ∧ WellFormedList list := by
  unfold listOfCopy at h
  split at h
  next list' hmap =>
    split at h
    next hok =>
      cases h
      exact ⟨hmap, hok.1, (distinctIds_iff _).1 hok.2⟩
    next => cases h
  next => cases h

/-- R47: a heard list is well formed. -/
theorem heardList_wellFormed {a : WireListAnswer} {list : List Entry} (h : heardList a = some list) :
    WellFormedList list := by
  unfold heardList at h
  split at h
  · exact (listOfCopy_eq_some h).2
  · cases h

end Sys2Proof.Machine

namespace Sys2Proof.Machine

open Answered

/-! ## Predicates on order list, membership, channels, landing unit and log

Three of the invariants look at these five blocks alone. Every command is put together from a few operations on them; a
predicate that each of these keeps is kept by every command. -/

/-- What the operations on order list, membership, channels, landing unit and log must keep. -/
structure KeptByBlocks (P : State → Prop) : Prop where
  /-- the other blocks are not looked at -/
  frame : ∀ {s t : State}, P s → t.order = s.order → t.membership = s.membership → t.channels = s.channels →
    t.landing = s.landing → t.log = s.log → t.pending = s.pending → P t
  /-- the new list is well formed where the lists of a state met before, on the way to this one, were -/
  order : ∀ {before s : State} (o : OrderUnit), P before → P s → (before.OrderSound → WellFormedList o.list) →
    P (s.setOrder o)
  /-- the note stays; the counter stays or is within its limit; a new reference is well formed -/
  membership : ∀ {s : State} (m : Membership), P s → m.note = s.membership.note →
    (m.tenureCounter = s.membership.tenureCounter ∨ m.tenureCounter ≤ Config.tenureCounterLimit) →
    (s.OrderSound → ∀ r, m.census = some r → ∀ list, r.reference = some list → WellFormedList list) →
    P (s.setMembership m)
  note : ∀ {s : State} (n : NoteReason), P s → P (s.note n)
  /-- nothing new waits in the channel -/
  channel : ∀ {s : State} (c : ChannelNo) (ch : Channel), P s → ch.ending = (s.chan c).ending →
    ch.flushCount = (s.chan c).flushCount →
    (ch.staged.length ≤ (s.chan c).staged.length ∨ ch.staged.length ≤ Config.stagedCapacity) → P (s.setChan c ch)
  start : ∀ {s : State} (c : ChannelNo) (ch : Channel), P s → ch.ending = none →
    ch.flushCount = (s.chan c).flushCount → ch.staged.length ≤ (s.chan c).staged.length → P (s.setChan c ch)
  endSegment : ∀ {s : State} (c : ChannelNo) (seg : Segment) (status : SegmentStatus), P s →
    P (s.endSegment c seg status)
  flush : ∀ {s : State} (c : ChannelNo), P s →
    P ((s.setChan c
      { s.chan c with
        staged := [], flushCount := min Config.flushCountLimit ((s.chan c).flushCount + (s.chan c).staged.length) }).offer
      (.channel c))
  /-- no window's note changes -/
  landing : ∀ {s t : State}, P s → t = s.setLanding t.landing →
    (∀ w, (t.win w).note = (s.win w).note ∧
      ((t.win w).committedFrames = (s.win w).committedFrames ∨ (t.win w).committedFrames ≤ Config.frameCountLimit)) →
    (t.landing.queue.length ≤ s.landing.queue.length ∨ t.landing.queue.length ≤ Config.landingCapacity) → P t
  /-- one window's note may change, and is then offered to the log -/
  window : ∀ {s t : State} (w : WindowNo), P s → t = s.setLanding t.landing → (∀ v, v ≠ w → t.win v = s.win v) →
    (t.win w).committedFrames = (s.win w).committedFrames → t.landing.queue.length ≤ s.landing.queue.length →
    P (t.offer (.window w))
  pop : ∀ {s : State}, P s → P s.popRecord
  cleared : ∀ {s : State}, P s → P s.clearBlocks

namespace KeptByBlocks

variable {P : State → Prop} (K : KeptByBlocks P) {s : State}

include K

theorem setBus (b : BusController) (h : P s) : P (s.setBus b) := K.frame h rfl rfl rfl rfl rfl rfl

theorem setPort (p : MemPort) (h : P s) : P (s.setPort p) := K.frame h rfl rfl rfl rfl rfl rfl

theorem setLastSent (c : ChannelNo) (h : P s) : P (s.setLastSent c) := K.frame h rfl rfl rfl rfl rfl rfl

theorem setCmd (x : CommandPort) (h : P s) : P (s.setCmd x) := K.frame h rfl rfl rfl rfl rfl rfl

theorem setChoices (n : Nat) (h : P s) : P (s.setChoices n) := K.frame h rfl rfl rfl rfl rfl rfl

/-! ### Channels -/

theorem requestRead (c : ChannelNo) (h : P s) : P (s.requestRead c) := by
  unfold State.requestRead
  split
  · exact h
  · exact K.setPort _ (K.channel c _ h rfl rfl (.inl (Nat.le_refl _)))

theorem readPoint (c : ChannelNo) (h : P s) : P (s.readPoint c) := by
  unfold State.readPoint
  repeat' split
  · exact h
  · exact K.channel c _ h rfl rfl (.inl (Nat.le_refl _))
  · exact K.requestRead c h
  · exact K.requestRead c h
  · exact h
  · exact K.channel c _ h rfl rfl (.inl (Nat.le_refl _))

theorem startSegment (c : ChannelNo) (r : SegmentRecord) {staged : List SegmentRecord} (h : P s)
    (hstaged : staged.length ≤ (s.chan c).staged.length) : P (s.startSegment c r staged) :=
  K.readPoint c (K.start c _ h rfl rfl hstaged)

theorem commitAtSender (c : ChannelNo) (seg : Segment) (h : P s) : P (s.commitAtSender c seg) := by
  unfold State.commitAtSender
  dsimp only
  repeat' split
  · exact K.endSegment c _ _ h
  · exact K.endSegment c _ _ h
  · exact K.readPoint c (K.channel c _ h rfl rfl (.inl (Nat.le_refl _)))

theorem retryAtSender (c : ChannelNo) (seg : Segment) (h : P s) : P (s.retryAtSender c seg) := by
  unfold State.retryAtSender
  dsimp only
  repeat' split
  · exact K.endSegment c _ _ h
  · exact K.endSegment c _ _ h
  · exact K.channel c _ h rfl rfl (.inl (Nat.le_refl _))

theorem channelOutcome (c : ChannelNo) (o : TenureOutcome) (h : P s) : P (s.channelOutcome c o) := by
  unfold State.channelOutcome
  repeat' split
  · exact K.commitAtSender c _ h
  · exact K.retryAtSender c _ h
  · exact K.retryAtSender c _ h
  · exact K.endSegment c _ _ h
  · exact K.endSegment c _ _ h
  · exact h

theorem channelWithdrawal (c : ChannelNo) (h : P s) : P (s.channelWithdrawal c) := by
  unfold State.channelWithdrawal
  repeat' split
  · exact K.endSegment c _ _ h
  · exact K.channel c _ h rfl rfl (.inl (Nat.le_refl _))
  · exact h

theorem senderOutcome (o : TenureOutcome) (h : P s) : P (s.senderOutcome o) := by
  unfold State.senderOutcome
  split
  · exact K.channelOutcome _ o h
  · exact h
  · exact h
  · exact h

theorem takeFrame (c : ChannelNo) (seg : Segment) (f : HeldFrame) (h : P s) : P (s.takeFrame c seg f) := by
  unfold State.takeFrame
  dsimp only
  split
  · exact K.channel c _ h rfl rfl (.inl (Nat.le_refl _))
  · exact K.readPoint c (K.channel c _ h rfl rfl (.inl (Nat.le_refl _)))

theorem dropStale (c : ChannelNo) (h : P s) : P (s.dropStale c) := by
  unfold State.dropStale
  dsimp only
  split
  · exact K.readPoint c (K.channel c _ h rfl rfl (.inl (Nat.le_refl _)))
  · exact K.channel c _ h rfl rfl (.inl (Nat.le_refl _))

/-! ### The landing unit -/

/-- A window rewritten with its note kept. -/
theorem setWin (w : WindowNo) (x : Window) (h : P s) (hnote : x.note = (s.win w).note)
    (hframes : x.committedFrames = (s.win w).committedFrames ∨ x.committedFrames ≤ Config.frameCountLimit) :
    P (s.setWin w x) := by
  refine K.landing h rfl (fun v => ?_) (.inl (Nat.le_refl _))
  rw [State.win_setWin]
  split
  next heq => exact heq ▸ ⟨hnote, hframes⟩
  next => exact ⟨rfl, .inl rfl⟩

/-- A landing unit whose windows are those of the state. -/
theorem landingOfWindows (l : Landing) (h : P s) (hwindows : l.windows = s.landing.windows)
    (hqueue : l.queue.length ≤ s.landing.queue.length ∨ l.queue.length ≤ Config.landingCapacity) :
    P (s.setLanding l) := by
  have hwin (w : WindowNo) : (s.setLanding l).win w = s.win w := congrArg (fun ws : Vector Window 16 => ws[w]) hwindows
  exact K.landing h rfl (fun w => hwin w ▸ ⟨rfl, .inl rfl⟩) hqueue

theorem writerAct (h : P s) : P s.writerAct := by
  unfold State.writerAct
  repeat' split
  · exact K.setPort _ (K.landingOfWindows _ h rfl (.inl (Nat.le_refl _)))
  · exact h
  · exact h

/-- Whatever the window becomes, its producer is offered to the log. -/
theorem offerWindow (w : WindowNo) (x : Window) (h : P s) (hframes : x.committedFrames = (s.win w).committedFrames) :
    P ((s.setWin w x).offer (.window w)) := by
  refine K.window w h rfl (fun v hv => State.win_setWin_other s w v x hv.symm) ?_ (Nat.le_refl _)
  rw [State.win_setWin_same, hframes]

end KeptByBlocks

/-- R122: a frame is accepted only while the landing queue has room. -/
theorem queued_lt_of_frameVote_accept {x : Window} {queued : Nat} {sender : StationId} {f : WireFrame}
    (h : frameVote x queued sender f = .accept) : queued < Config.landingCapacity := by
  refine Decidable.byContradiction fun hfull => ?_
  have hdefers : defersFrame x queued f = true := by
    rw [defersFrame, Bool.or_eq_true, decide_eq_true_eq]
    exact .inr (Nat.le_of_not_lt hfull)
  rw [frameVote, if_pos hdefers] at h
  split at h <;> cases h

/-! ### Windows after an event -/

namespace State

variable (s : State)

/-- R145: the drain test can touch the state and the note of its window. -/
theorem drainTest_frames (w : WindowNo) :
    ∃ x, s.drainTest w = s.setWin w x ∧ x.committedFrames = (s.win w).committedFrames := by
  unfold State.drainTest
  split
  · exact ⟨{ s.win w with state := .closed, note := some (mergeEvent (s.win w).note .closed) },
      by simp [State.windowEvent], rfl⟩
  · exact ⟨s.win w, by simp, rfl⟩

/-- R143: the note test can touch the state and the note of the frame's window. -/
theorem noteTest_frames (f : QueuedFrame) :
    ∃ x, s.noteTest f = s.setWin f.window x ∧ x.committedFrames = (s.win f.window).committedFrames := by
  have hprogress : ∃ x, (if s.makesProgress f then s.windowEvent f.window .progress else s) = s.setWin f.window x ∧
      x.committedFrames = (s.win f.window).committedFrames := by
    split
    · exact ⟨_, rfl, rfl⟩
    · exact ⟨s.win f.window, by simp, rfl⟩
  obtain ⟨x, hx, hframes⟩ := hprogress
  unfold State.noteTest
  rw [hx]
  dsimp only
  split
  · exact ⟨{ x with state := .full, note := some (mergeEvent x.note .full) }, by simp [State.windowEvent], hframes⟩
  · exact ⟨x, rfl, hframes⟩

theorem win_frameWritten (f : QueuedFrame) (v : WindowNo) :
    (s.frameWritten f).win v =
      if f.window = v then
        { s.win f.window with visible := (s.win f.window).visible + BitVec.ofNat 32 f.payload.length }
      else s.win v :=
  s.win_setWin f.window v _

/-- R133: QUERY_WINDOW changes nothing at its window. -/
theorem queryWindow_state (w : WindowNo) : (s.queryWindow w).1 = s := by
  unfold State.queryWindow
  split <;> rfl

/-- R146: the window that faults, with its event merged into its note. -/
def faultedWindow (w : WindowNo) (address : Word) : Window :=
  { s.win w with state := .faulted, faultAddr := some address
                 note := some (mergeEvent (s.win w).note (.fault address)) }

/-- R146, R147: the landing unit of a faulting window, before its note is offered to the log. -/
theorem faultWindow_eq (w : WindowNo) (address : Word) :
    s.faultWindow w address =
      (s.setLanding
        { windows := s.landing.windows.set w (s.faultedWindow w address)
          queue := s.landing.queue.filter fun f => !(f.window == w), vote := s.voteAfterFault w, writer := .idle }).offer
        (.window w) := by
  simp [State.faultWindow, State.windowEvent, faultedWindow, State.setWin, State.setLanding, State.win]

end State

namespace KeptByBlocks

variable {P : State → Prop} (K : KeptByBlocks P) {s : State}

include K

/-- R145: the drain test after the window has been rewritten, and the offer that follows. -/
theorem offerDrained {t : State} (w : WindowNo) (h : P s) (ht : t = s.setLanding t.landing)
    (hothers : ∀ v, v ≠ w → t.win v = s.win v) (hframes : (t.win w).committedFrames = (s.win w).committedFrames)
    (hqueue : t.landing.queue.length ≤ s.landing.queue.length) : P ((t.drainTest w).offer (.window w)) := by
  obtain ⟨x, hx, hxframes⟩ := t.drainTest_frames w
  rw [hx]
  refine K.window w h ?_ (fun v hv => ?_) ?_ hqueue
  · rw [ht]
    rfl
  · rw [State.win_setWin_other t w v x hv.symm, hothers v hv]
  · rw [State.win_setWin_same, hxframes, hframes]

/-- R141, R143, R145: a written frame leaves the queue, and its window's events are offered to the log. -/
theorem frameWritten (f : QueuedFrame) (h : P s) :
    P ((((s.frameWritten f).noteTest f).drainTest f.window).offer (.window f.window)) := by
  obtain ⟨x, hx, hframes⟩ := (s.frameWritten f).noteTest_frames f
  rw [hx]
  refine K.offerDrained f.window h rfl (fun v hv => ?_) ?_ ?_
  · rw [State.win_setWin_other _ f.window v x hv.symm, State.win_frameWritten, if_neg hv.symm]
  · rw [State.win_setWin_same, hframes, State.win_frameWritten, if_pos rfl]
  · show s.landing.queue.tail.length ≤ s.landing.queue.length
    rw [List.length_tail]
    exact Nat.sub_le _ _

theorem faultWindow (w : WindowNo) (address : Word) (h : P s) : P (s.faultWindow w address) := by
  rw [State.faultWindow_eq]
  refine K.window w h rfl (fun v hv => ?_) ?_ (List.length_filter_le _ _)
  · exact State.win_setWin_other s w v (s.faultedWindow w address) hv.symm
  · exact (congrArg Window.committedFrames (State.win_setWin_same s w (s.faultedWindow w address))).trans rfl

theorem landingCommit (h : P s) : P s.landingCommit := by
  unfold State.landingCommit
  dsimp only
  refine K.writerAct ?_
  have hqueue : (s.landing.queue.map fun f => { f with released := true }).length ≤ s.landing.queue.length :=
    Nat.le_of_eq (List.length_map _)
  split
  next v _ =>
    exact K.landingOfWindows _ (K.setWin v.window _ h rfl (.inr (Nat.min_le_left _ _))) rfl (.inl hqueue)
  next => exact K.landingOfWindows _ h rfl (.inl hqueue)

theorem landingDrop (h : P s) : P s.landingDrop := by
  unfold State.landingDrop
  dsimp only
  split
  next v _ =>
    have hframes : (s.win v.window).setBack.committedFrames = (s.win v.window).committedFrames := by
      unfold Window.setBack
      split <;> rfl
    refine K.offerDrained v.window h rfl (fun u hu => ?_) ?_ (List.length_filter_le _ _)
    · exact State.win_setWin_other s v.window u _ hu.symm
    · exact (congrArg Window.committedFrames (State.win_setWin_same s v.window _)).trans hframes
  next => exact K.landingOfWindows _ h rfl (.inl (List.length_filter_le _ _))

theorem landingOutcome (o : TenureOutcome) (h : P s) : P (s.landingOutcome o) := by
  cases o with
  | commit => exact K.landingCommit h
  | retry | refuse | unclaimed | aborted => exact K.landingDrop h

theorem landFrame (sender : StationId) (f : WireFrame) (h : P s) : P (s.landFrame sender f) := by
  unfold State.landFrame
  split
  · exact h
  next v _ =>
    dsimp only
    split
    next haccept =>
      have hroom := queued_lt_of_frameVote_accept haccept
      refine K.landingOfWindows _ (K.setWin v.window _ h ?_ (.inl ?_)) rfl (.inr ?_)
      · unfold Window.acceptBytes
        split <;> rfl
      · unfold Window.acceptBytes
        split <;> rfl
      · rw [List.length_append]
        exact hroom
    next => exact K.landingOfWindows _ h rfl (.inl (Nat.le_refl _))
    next => exact K.landingOfWindows _ h rfl (.inl (Nat.le_refl _))

/-! ### Membership and censuses -/

/-- A change of the membership unit that keeps note, counter and census record. -/
theorem setMembership (m : Membership) (h : P s) (hnote : m.note = s.membership.note)
    (hcounter : m.tenureCounter = s.membership.tenureCounter)
    (hcensus : m.census = s.membership.census ∨ m.census = none) : P (s.setMembership m) := by
  refine K.membership m h hnote (.inl hcounter) fun hs r hr list hlist => ?_
  rcases hcensus with hsame | hnone
  · exact hs.2 r (hsame ▸ hr) list hlist
  · rw [hnone] at hr
    cases hr

theorem enter (l : LinkState) (r : Option Reason) (h : P s) : P (s.enter l r) :=
  K.setMembership _ h rfl rfl (.inl rfl)

theorem enterWithNote (l : LinkState) (r : Reason) (h : P s) : P (s.enterWithNote l r) := K.note _ (K.enter l _ h)

theorem activity (h : P s) : P s.activity :=
  K.setMembership _ h (State.activity_note _) (State.activity_tenureCounter _) (.inl (State.activity_census _))

theorem censusAbandoned (h : P s) : P s.censusAbandoned := by
  have hclosed : P (s.setMembership { s.membership with census := none }) := K.setMembership _ h rfl rfl (.inr rfl)
  unfold State.censusAbandoned
  dsimp only
  split
  · exact K.enter _ _ hclosed
  · exact hclosed

theorem abandonCensus (h : P s) : P s.abandonCensus := K.setBus _ (K.censusAbandoned h)

theorem censusCollision (h : P s) : P s.censusCollision := by
  have hmarked : P (s.setMembership
      { s.membership with census := s.membership.census.map fun r => { r with collided := true } }) := by
    refine K.membership _ h rfl (.inl rfl) fun hs q hq list hlist => ?_
    obtain ⟨r, hr, rfl⟩ := Option.map_eq_some_iff.1 hq
    exact hs.2 r hr list hlist
  unfold State.censusCollision
  dsimp only
  split
  · exact K.enterWithNote _ _ hmarked
  · exact K.enterWithNote _ _ hmarked
  · exact K.enterWithNote _ _ hmarked
  · exact K.enterWithNote _ _ hmarked
  · exact hmarked
  · exact hmarked

theorem tenureCollision (h : P s) : P s.tenureCollision := by
  unfold State.tenureCollision
  split
  · exact K.enterWithNote _ _ h
  · exact K.enterWithNote _ _ h
  all_goals exact h

theorem openCensus (h : CensusHeader) (hs : P s) : P (s.openCensus h) := by
  have hopened : P (s.setMembership { s.membership with census := some (recordOf h) }) := by
    refine K.membership _ hs rfl (.inl rfl) fun _ r hr list hlist => ?_
    cases hr
    cases hlist
  unfold State.openCensus
  dsimp only
  split
  · exact K.enter _ _ hopened
  · exact hopened

/-- A record whose reference, if it has one, is that of the census in progress. -/
theorem setCensus (q : CensusRecord) (h : P s)
    (hq : s.OrderSound → ∀ list, q.reference = some list → WellFormedList list) :
    P (s.setMembership { s.membership with census := some q }) := by
  refine K.membership _ h rfl (.inl rfl) fun hs r hr => ?_
  cases hr
  exact hq hs

theorem takeListAnswer {r : CensusRecord} (a : WireListAnswer) (h : P s) (hr : s.membership.census = some r) :
    P (s.takeListAnswer r a) := by
  unfold State.takeListAnswer
  split
  next list hlist =>
    refine K.setCensus _ h fun hs reference hreference => ?_
    unfold CensusRecord.hearList at hreference
    dsimp only at hreference
    split at hreference
    next old hold =>
      cases hreference
      exact hs.2 r hr _ hold
    next =>
      cases hreference
      exact heardList_wellFormed hlist
  next => exact h

theorem takeJoinAnswer {r : CensusRecord} (j : Nat) (a : WireJoinAnswer) (h : P s) (hr : s.membership.census = some r) :
    P (s.takeJoinAnswer r j a) := by
  unfold State.takeJoinAnswer
  split
  · exact K.setCensus _ h fun hs list hlist => hs.2 r hr list hlist
  · exact h

theorem compareWithReference {r : CensusRecord} (reference : List Entry) (h : P s)
    (hr : s.membership.census = some r) : P (s.compareWithReference r reference) := by
  unfold State.compareWithReference
  repeat' split
  · exact h
  · exact K.enterWithNote _ _ (K.setCensus _ h fun hs list hlist => hs.2 r hr list hlist)
  · exact K.enterWithNote _ _ h
  all_goals exact h

/-- R47, R48: the end of the list slots keeps `P`: the list that a JOINING station takes is the reference. -/
theorem endListSlots {r : CensusRecord} (h : P s) (hr : s.membership.census = some r) : P (s.endListSlots r) := by
  have hreference (hs : s.OrderSound) : WellFormedList (r.reference.getD []) := reference_wellFormed (hs.2 r hr)
  have hset : P (s.setMembership
      { s.membership with census := some { r with reference := some (r.reference.getD []) } }) := by
    refine K.setCensus _ h fun hs list hlist => ?_
    cases hlist
    exact hreference hs
  have hcompared := K.compareWithReference (r := { r with reference := some (r.reference.getD []) })
    (r.reference.getD []) hset rfl
  unfold State.endListSlots
  dsimp only
  split
  · exact K.order _ h hcompared hreference
  · exact hcompared

theorem followSlot (k : Nat) (h : P s) : P (s.followSlot k) := by
  unfold State.followSlot
  split
  · exact h
  next r hr =>
    dsimp only
    repeat' split
    · exact K.setBus _ h
    · exact K.setBus _ (K.endListSlots h hr)
    · exact K.setBus _ h

theorem linkAtCensusEnd (before : State) (r : CensusRecord) (h : P s) : P (s.linkAtCensusEnd before r) := by
  unfold State.linkAtCensusEnd
  repeat' split
  · exact K.enterWithNote _ _ h
  · exact K.enterWithNote _ _ h
  · exact K.enter _ _ h
  · exact h
  · exact K.note _ h
  · exact K.enterWithNote _ _ h
  · exact K.enterWithNote _ _ h
  all_goals exact h

theorem censusEnd (h : P s) : P s.censusEnd := by
  unfold State.censusEnd
  split
  next r hr =>
    refine K.linkAtCensusEnd s r (K.membership _ (K.order _ h h fun hs => ?_) rfl (.inr (Nat.zero_le _)) ?_)
    · exact newList_wellFormed (reference_wellFormed (hs.2 r hr))
    · intro _ q hq
      cases hq
  next => exact h

/-! ### Tenures -/

theorem tenureEnd (o : TenureOutcome) (h : P s) : P (s.tenureEnd o) := by
  have hrotated : P s.rotate := K.order _ h h fun hs => hs.1.perm (rotated_perm _ _ _ _)
  have hcounted : P s.rotate.countTenure :=
    K.membership _ hrotated rfl (.inr (Nat.min_le_left _ _)) fun hs r hr list hlist => hs.2 r hr list hlist
  refine K.setBus _ ?_
  unfold State.takeOutcome
  dsimp only [State.draw]
  repeat' split
  · exact K.landingOutcome o (K.senderOutcome o (K.setChoices _ hcounted))
  · exact K.senderOutcome o (K.landingOutcome o (K.setChoices _ hcounted))
  · exact K.landingOutcome o (K.senderOutcome o hcounted)

theorem endedByStartMark (h : P s) : P s.endedByStartMark := by
  unfold State.endedByStartMark
  split
  · exact K.tenureEnd _ h
  · exact K.abandonCensus h
  · exact h
  · exact h

theorem sendTenure (h : P s) : P s.sendTenure := by
  unfold State.sendTenure
  split
  · exact K.setBus _ (K.setLastSent _ (K.channel _ _ h rfl rfl (.inl (Nat.le_refl _))))
  · exact K.setBus _ h

theorem takeWin (tenureWon : Bool) (won : Option Claim) (h : P s) : P (s.takeWin tenureWon won) := by
  unfold State.takeWin
  split
  · exact K.sendTenure h
  · exact K.setBus _ h
  · exact K.setBus _ h

theorem takeHeader (hd : Header) (h : P s) : P (s.takeHeader hd) := by
  have hcompared : P (s.compareHeader hd.sender) := K.order _ h h fun hs => hs.1
  unfold State.takeHeader
  dsimp only
  split
  · exact K.landingOfWindows _ (K.setBus _ hcompared) rfl (.inl (Nat.le_refl _))
  · exact K.setBus _ hcompared

theorem takeFrameArrival (hd : Header) (f : WireFrame) (h : P s) : P (s.takeFrameArrival hd f) := by
  unfold State.takeFrameArrival
  dsimp only
  repeat' split
  · exact K.landFrame _ f (K.setBus _ h)
  · exact K.setBus _ (K.setBus _ h)
  · exact K.setBus _ h

theorem reportWithdrawal (c : ChannelNo) (h : P s) : P (s.reportWithdrawal c) := by
  unfold State.reportWithdrawal
  dsimp only [State.draw]
  repeat' split
  · exact K.tenureCollision (K.channelWithdrawal c (K.setChoices _ h))
  · exact K.channelWithdrawal c (K.tenureCollision (K.setChoices _ h))
  · exact K.tenureCollision (K.channelWithdrawal c h)

/-! ### The owners of the host commands -/

theorem push (h : P s) : P s.push.1 := by
  unfold State.push
  dsimp only
  repeat' split
  · exact h
  · exact K.startSegment _ _ h (Nat.le_refl _)
  next hroom =>
    refine K.channel _ _ h rfl rfl (.inr ?_)
    rw [List.length_append]
    exact hroom
  · exact h

theorem stopChannel (c : ChannelNo) (h : P s) : P (s.stopChannel c).1 := by
  unfold State.stopChannel
  split
  · exact K.endSegment c _ _ h
  · exact K.endSegment c _ _ h
  · exact K.channel c _ h rfl rfl (.inl (Nat.le_refl _))
  · exact h

theorem resumeChannel (c : ChannelNo) (h : P s) : P (s.resumeChannel c).1 := by
  unfold State.resumeChannel
  repeat' split
  next r rest hstaged =>
    refine K.startSegment c r h ?_
    rw [hstaged]
    exact Nat.le_succ _
  · exact K.channel c _ h rfl rfl (.inl (Nat.le_refl _))
  · exact h

theorem flushChannel (c : ChannelNo) (h : P s) : P (s.flushChannel c).1 := by
  unfold State.flushChannel
  dsimp only
  split
  · exact h
  · exact K.flush c h

theorem openCommand (h : P s) : P s.openCommand.1 := by
  unfold State.openCommand
  repeat' split
  · exact h
  · exact K.setWin _ _ h rfl (.inr (Nat.zero_le _))
  · exact h

theorem closeCommand (w : WindowNo) (h : P s) : P (s.closeCommand w).1 := by
  have hdrain : P (((s.setWin w { s.win w with state := .closing }).drainTest w).offer (.window w)) := by
    refine K.offerDrained w h rfl (fun v hv => State.win_setWin_other s w v _ hv.symm) ?_ (Nat.le_refl _)
    rw [State.win_setWin_same]
  unfold State.closeCommand
  dsimp only
  split
  · exact hdrain
  · exact hdrain
  · rw [State.windowEvent, State.setWin_setWin, State.win_setWin_same]
    exact K.offerWindow w _ h rfl
  · exact h
  · exact h

theorem consumeCommand (w : WindowNo) (h : P s) : P (s.consumeCommand w).1 := by
  unfold State.consumeCommand
  dsimp only
  repeat' split
  · exact h
  · exact h
  · exact h
  · exact K.setWin w _ h rfl (.inl rfl)

theorem rearmCommand (w : WindowNo) (h : P s) : P (s.rearmCommand w).1 := by
  unfold State.rearmCommand
  split
  · exact K.setWin w _ h rfl (.inr (Nat.zero_le _))
  · exact h

theorem leaveCommand (h : P s) : P s.leaveCommand.1 := by
  unfold State.leaveCommand
  split
  · exact K.enter _ _ h
  · exact K.enterWithNote _ _ h
  · exact K.enterWithNote _ _ h
  all_goals exact h

theorem joinCommand (h : P s) : P s.joinCommand.1 := by
  unfold State.joinCommand
  split
  · exact K.enter _ _ h
  all_goals exact h

theorem comeUp (pins : StrapPins) (h : P s) : P (s.comeUp pins) :=
  K.enter _ _ (K.setMembership _ (K.frame (t := s.setStraps (sampleStraps pins)) h rfl rfl rfl rfl rfl rfl) rfl rfl (.inl rfl))

/-- R165: a host command keeps `P` where its owner does. -/
theorem takeCommand (code : BitVec 8) {act : State → State × Reply} (h : P s) (hact : ∀ {u}, P u → P (act u).1) :
    Leads P (s.takeCommand code act) :=
  leads_takeCommand code (fun _ x hu => K.setCmd x hu) h fun _ hu => hact hu

/-! ### The commands -/

theorem execStartMark (h : P s) : Leads P (Machine.execStartMark s) := by
  unfold Machine.execStartMark
  repeat' split
  · exact h
  · exact K.setBus _ (K.activity (K.endedByStartMark h))
  · exact K.activity (K.setBus _ h)

theorem execContestLoss (h : P s) : Leads P (Machine.execContestLoss s) := by
  unfold Machine.execContestLoss
  split
  · exact K.setBus _ h
  · trivial

theorem execClaimCodeEnd (code : BitVec 5) (h : P s) : Leads P (Machine.execClaimCodeEnd code s) := by
  unfold Machine.execClaimCodeEnd
  by_cases hphase : s.bus.phase = .contest
  · rw [if_pos hphase]
    split
    · exact K.takeWin _ _ (K.setBus _ h)
    · exact h
  · rw [if_neg hphase]
    split
    · trivial
    · exact h

theorem execContestSilence (h : P s) : Leads P (Machine.execContestSilence s) := by
  unfold Machine.execContestSilence
  repeat' split
  · exact K.setBus _ h
  · trivial
  · exact h

theorem execStepInSilence (h : P s) : Leads P (Machine.execStepInSilence s) := by
  unfold Machine.execStepInSilence
  repeat' split
  · exact h
  · trivial
  · exact K.setBus _ h

theorem execTenureHeader (w : WireHeader) (h : P s) : Leads P (Machine.execTenureHeader w s) := by
  unfold Machine.execTenureHeader
  repeat' split
  · exact K.takeHeader _ (K.activity h)
  · exact K.setBus _ (K.activity h)
  · trivial
  · exact h

theorem execFrame (f : WireFrame) (h : P s) : Leads P (Machine.execFrame f s) := by
  unfold Machine.execFrame
  repeat' split
  · exact K.takeFrameArrival _ f (K.activity h)
  · exact K.activity h
  · exact K.activity h
  · trivial
  · exact h
  · trivial

theorem execVerdictMark (h : P s) : Leads P (Machine.execVerdictMark s) := by
  unfold Machine.execVerdictMark
  repeat' split
  · exact K.setBus _ (K.activity h)
  · trivial
  · exact h

theorem execVerdictSample (lines : Lines) (h : P s) : Leads P (Machine.execVerdictSample lines s) := by
  unfold Machine.execVerdictSample
  repeat' split
  · exact K.tenureEnd _ h
  · trivial
  · exact h

theorem execTruncation (h : P s) : Leads P (Machine.execTruncation s) := by
  unfold Machine.execTruncation
  repeat' split
  · exact K.tenureEnd _ h
  · trivial
  · exact h

theorem execEchoWithdrawal (h : P s) : Leads P (Machine.execEchoWithdrawal s) := by
  unfold Machine.execEchoWithdrawal
  split
  · exact K.reportWithdrawal _ (K.setBus _ h)
  · trivial

theorem execEchoMismatchTenure (h : P s) : Leads P (Machine.execEchoMismatchTenure s) := by
  unfold Machine.execEchoMismatchTenure
  split
  · exact K.channelOutcome _ _ (K.setBus _ h)
  · trivial

theorem execEchoMismatchCensus (h : P s) : Leads P (Machine.execEchoMismatchCensus s) := by
  unfold Machine.execEchoMismatchCensus
  repeat' split
  · exact K.setBus _ h
  · exact K.censusCollision (K.setBus _ h)
  · trivial
  · trivial

theorem execCensusHeader (w : WireCensusHeader) (h : P s) : Leads P (Machine.execCensusHeader w s) := by
  unfold Machine.execCensusHeader
  repeat' split
  · exact K.openCensus _ (K.setBus _ (K.activity h))
  · exact K.setBus _ (K.activity h)
  · trivial
  · exact h

theorem execCensusSlotTime (h : P s) : Leads P (Machine.execCensusSlotTime s) := by
  unfold Machine.execCensusSlotTime
  repeat' split
  · exact K.setBus _ h
  · trivial
  · trivial
  · trivial
  · exact h
  · exact h
  · exact h
  · trivial
  · exact h

theorem execSlotMark (h : P s) : Leads P (Machine.execSlotMark s) := by
  unfold Machine.execSlotMark
  split
  · exact K.followSlot _ (K.setBus _ (K.activity h))
  · exact h

theorem execListSlotAnswer (a : WireListAnswer) (h : P s) : Leads P (Machine.execListSlotAnswer a s) := by
  unfold Machine.execListSlotAnswer
  repeat' split
  · exact K.setBus _ (K.activity h)
  next r hr _ =>
    exact K.takeListAnswer a (K.setBus _ (K.activity h)) ((State.activity_census _).trans hr)
  · trivial
  · trivial
  · exact h
  · trivial

theorem execJoinSlotAnswer (a : WireJoinAnswer) (h : P s) : Leads P (Machine.execJoinSlotAnswer a s) := by
  unfold Machine.execJoinSlotAnswer
  repeat' split
  · exact K.setBus _ (K.activity h)
  next r hr _ =>
    exact K.takeJoinAnswer _ a (K.setBus _ (K.activity h)) ((State.activity_census _).trans hr)
  · trivial
  · trivial
  · exact h

theorem execEndMark (h : P s) : Leads P (Machine.execEndMark s) := by
  unfold Machine.execEndMark
  split
  · exact K.setBus _ (K.censusEnd (K.activity h))
  · exact h

theorem execCensusAbandonSilence (h : P s) : Leads P (Machine.execCensusAbandonSilence s) := by
  unfold Machine.execCensusAbandonSilence
  repeat' split
  · exact K.abandonCensus h
  · trivial
  · exact h

theorem execIdleTimerExpiry (h : P s) : Leads P (Machine.execIdleTimerExpiry s) := by
  unfold Machine.execIdleTimerExpiry
  split
  · exact K.setMembership _ h rfl rfl (.inl rfl)
  · trivial

theorem execFormationTimerExpiry (h : P s) : Leads P (Machine.execFormationTimerExpiry s) := by
  unfold Machine.execFormationTimerExpiry
  split
  · exact K.setMembership _ h rfl rfl (.inl rfl)
  · trivial

theorem execResetAsserted (h : P s) : Leads P (Machine.execResetAsserted s) :=
  K.setMembership (s := s.clearBlocks.setPort MemPort.reset) _ (K.setPort _ (K.cleared h)) rfl rfl (.inl rfl)

theorem execResetReleased (pins : StrapPins) (h : P s) : Leads P (Machine.execResetReleased pins s) := by
  unfold Machine.execResetReleased
  split
  · exact K.comeUp pins h
  · trivial

theorem execPaceActive (c : ChannelNo) (level : Bool) (h : P s) : Leads P (Machine.execPaceActive c level s) := by
  have hpaced (x : Vector Bool 4) : P (s.setPace x) := K.frame h rfl rfl rfl rfl rfl rfl
  unfold Machine.execPaceActive
  dsimp only
  split
  · exact K.requestRead c (hpaced _)
  · exact hpaced _

theorem execFrameReadCompletion (words : List Word) (h : P s) : Leads P (Machine.execFrameReadCompletion words s) := by
  unfold Machine.execFrameReadCompletion
  repeat' split
  · exact K.setPort _ (K.takeFrame _ _ _ h)
  · trivial
  · trivial
  · trivial

theorem execReadFault (h : P s) : Leads P (Machine.execReadFault s) := by
  unfold Machine.execReadFault
  split
  · exact K.setPort _ (K.endSegment _ _ _ (K.channel _ _ h rfl rfl (.inl (Nat.le_refl _))))
  · trivial

theorem execStaleReadCompletion (h : P s) : Leads P (Machine.execStaleReadCompletion s) := by
  unfold Machine.execStaleReadCompletion
  repeat' split
  · exact K.setPort _ (K.dropStale _ h)
  · trivial
  · trivial

theorem execLandingWriteCompletion (h : P s) : Leads P (Machine.execLandingWriteCompletion s) := by
  unfold Machine.execLandingWriteCompletion
  repeat' split
  · exact K.setPort _ (K.writerAct (K.frameWritten _ h))
  · trivial
  · trivial

theorem execSplitFirstPartCompletion (h : P s) : Leads P (Machine.execSplitFirstPartCompletion s) := by
  unfold Machine.execSplitFirstPartCompletion
  repeat' split
  · trivial
  · exact K.setPort _ (K.setPort _ (K.landingOfWindows _ h rfl (.inl (Nat.le_refl _))))
  · trivial

theorem execWriteFault (h : P s) : Leads P (Machine.execWriteFault s) := by
  unfold Machine.execWriteFault
  split
  · exact K.setPort _ (K.writerAct (K.faultWindow _ _ h))
  · trivial

theorem execOrphanCompletion (h : P s) : Leads P (Machine.execOrphanCompletion s) := by
  unfold Machine.execOrphanCompletion
  split
  · exact K.setPort _ h
  · trivial

theorem execQueryChannel (h : P s) : Leads P (Machine.execQueryChannel s) := by
  unfold Machine.execQueryChannel
  exact K.takeCommand _ h fun hu => State.onChannel_keeps hu fun _ => hu

theorem execStationReset (pins : StrapPins) (h : P s) : Leads P (Machine.execStationReset pins s) := by
  unfold Machine.execStationReset
  split
  · exact h
  · exact K.note _ (K.comeUp pins (K.setPort _ (K.cleared h)))

theorem execUnknownCommand (code : BitVec 8) (h : P s) : Leads P (Machine.execUnknownCommand code s) := by
  unfold Machine.execUnknownCommand
  split
  · trivial
  · exact K.takeCommand code h id

theorem execPop (enable : Bool) (h : P s) : Leads P (Machine.execPop enable s) := by
  unfold Machine.execPop
  split
  · exact h
  · exact K.pop (K.setCmd _ h)

theorem execSetInterruptEnable (enable : Bool) (h : P s) : Leads P (Machine.execSetInterruptEnable enable s) := by
  unfold Machine.execSetInterruptEnable
  split
  · exact h
  · exact K.setCmd _ h

theorem execRegisterWrite (w : PlainWord) (value : Word) (enables : BitVec 4) (h : P s) : Leads P (Machine.execRegisterWrite w value enables s) := by
  unfold Machine.execRegisterWrite
  repeat' split
  · exact h
  · exact K.setCmd _ h
  all_goals exact h

/-- Every command keeps `P`. -/
theorem exec (i : Instr) (h : P s) : Leads P (Machine.exec i s) := by
  cases i with
  | startMark => exact K.execStartMark h
  | contestLoss => exact K.execContestLoss h
  | claimCodeEnd code => exact K.execClaimCodeEnd code h
  | contestSilence => exact K.execContestSilence h
  | stepInSilence => exact K.execStepInSilence h
  | tenureHeader w => exact K.execTenureHeader w h
  | frame f => exact K.execFrame f h
  | verdictMark => exact K.execVerdictMark h
  | verdictSample lines => exact K.execVerdictSample lines h
  | truncation => exact K.execTruncation h
  | echoWithdrawal => exact K.execEchoWithdrawal h
  | echoMismatchTenure => exact K.execEchoMismatchTenure h
  | echoMismatchCensus => exact K.execEchoMismatchCensus h
  | censusHeader w => exact K.execCensusHeader w h
  | censusSlotTime => exact K.execCensusSlotTime h
  | slotMark => exact K.execSlotMark h
  | listSlotAnswer a => exact K.execListSlotAnswer a h
  | joinSlotAnswer a => exact K.execJoinSlotAnswer a h
  | endMark => exact K.execEndMark h
  | censusAbandonSilence => exact K.execCensusAbandonSilence h
  | idleTimerExpiry => exact K.execIdleTimerExpiry h
  | formationTimerExpiry => exact K.execFormationTimerExpiry h
  | resetAsserted => exact K.execResetAsserted h
  | resetReleased pins => exact K.execResetReleased pins h
  | paceActive c level => exact K.execPaceActive c level h
  | frameReadCompletion words => exact K.execFrameReadCompletion words h
  | readFault => exact K.execReadFault h
  | staleReadCompletion => exact K.execStaleReadCompletion h
  | landingWriteCompletion => exact K.execLandingWriteCompletion h
  | splitFirstPartCompletion => exact K.execSplitFirstPartCompletion h
  | writeFault => exact K.execWriteFault h
  | orphanCompletion => exact K.execOrphanCompletion h
  | push => exact K.takeCommand _ h K.push
  | stop => exact K.takeCommand _ h fun hu => State.onChannel_keeps hu fun c => K.stopChannel c hu
  | resume => exact K.takeCommand _ h fun hu => State.onChannel_keeps hu fun c => K.resumeChannel c hu
  | flush => exact K.takeCommand _ h fun hu => State.onChannel_keeps hu fun c => K.flushChannel c hu
  | queryChannel => exact K.execQueryChannel h
  | openWindow => exact K.takeCommand _ h K.openCommand
  | closeWindow => exact K.takeCommand _ h fun hu => State.onWindow_keeps hu fun w => K.closeCommand w hu
  | consume => exact K.takeCommand _ h fun hu => State.onWindow_keeps hu fun w => K.consumeCommand w hu
  | rearm => exact K.takeCommand _ h fun hu => State.onWindow_keeps hu fun w => K.rearmCommand w hu
  | queryWindow => exact K.takeCommand _ h fun hu => State.onWindow_keeps hu fun w => (State.queryWindow_state _ w).symm ▸ hu
  | leave => exact K.takeCommand _ h K.leaveCommand
  | join => exact K.takeCommand _ h K.joinCommand
  | stationReset pins => exact K.execStationReset pins h
  | unknownCommand code => exact K.execUnknownCommand code h
  | pop enable => exact K.execPop enable h
  | setInterruptEnable enable => exact K.execSetInterruptEnable enable h
  | registerWrite w value enables => exact K.execRegisterWrite w value enables h

/-- Every step keeps `P`, where `P` does not look at the queue of commands. -/
theorem step {t : State} (hpending : ∀ u rest, P u → P { u with pending := rest }) (h : P s)
    (hstep : Machine.step s = .next t) : P t :=
  step_keeps hpending (fun i _ hs => K.exec i hs) h hstep

end KeptByBlocks

end Sys2Proof.Machine

namespace Sys2Proof.Machine

/-! ## What a grant leaves (R61, R71, R80, R144) -/

namespace State

variable (s : State)

theorem logHasRoom_iff : s.logHasRoom = true ↔ s.log.records.length < Config.logCapacity := decide_eq_true_iff

/-- R160: a cause while the log is full leaves the note pending. -/
theorem note_of_full (n : NoteReason) (h : 32 ≤ s.log.records.length) :
    s.note n = s.setMembership { s.membership with note := some n } :=
  offer_of_full _ _ h

/-- R160: a cause while the log has room is granted at once. -/
theorem note_of_room (n : NoteReason) (h : s.log.records.length < 32) :
    s.note n = (s.setMembership { s.membership with note := some n }).grant .membership :=
  offer_of_room _ _ h

/-- R61: the grant to the membership unit. -/
theorem grant_membership {n : NoteReason} (h : s.membership.note = some n) :
    s.grant .membership =
      (s.place .membership (s.membershipRecord n)).setMembership { s.membership with note := none } := by
  show s.grantMembership = _
  rw [State.grantMembership, h]

/-- R71: the grant to a channel in ENDING. -/
theorem grant_channel_ending {c : ChannelNo} {e : EndingRecord} (h : (s.chan c).ending = some e) :
    s.grant (.channel c) = (s.place (.channel c) (.segmentEnd e.report)).leaveEnding c e := by
  show s.grantChannel c = _
  rw [State.grantChannel, h]

/-- R80: the grant to a channel with a FLUSHED note. -/
theorem grant_channel_flushed {c : ChannelNo} (hending : (s.chan c).ending = none) (h : 0 < (s.chan c).flushCount) :
    s.grant (.channel c) =
      (s.place (.channel c) (.flushed c (s.chan c).flushCount)).setChan c { s.chan c with flushCount := 0 } := by
  show s.grantChannel c = _
  rw [State.grantChannel, hending]
  exact if_pos h

/-- R144: the grant to a window. -/
theorem grant_window {w : WindowNo} {e : WindowEvent} (h : (s.win w).note = some e) :
    s.grant (.window w) =
      (s.place (.window w) (s.landingRecord w e)).setWin w { s.win w with note := none, committedFrames := 0 } := by
  show s.grantWindow w = _
  rw [State.grantWindow, h]

/-- R160: a producer with nothing to place takes no slot. -/
theorem grant_of_not_waiting {p : Producer} (h : s.waiting p = false) : s.grant p = s := by
  cases p with
  | membership =>
    have hnote : s.membership.note = none := by simpa [State.waiting] using h
    show s.grantMembership = s
    rw [State.grantMembership, hnote]
  | channel c =>
    have hnothing : (s.chan c).ending = none ∧ (s.chan c).flushCount = 0 := by simpa [State.waiting] using h
    show s.grantChannel c = s
    rw [State.grantChannel, hnothing.1, hnothing.2]
    rfl
  | window w =>
    have hnote : (s.win w).note = none := by simpa [State.waiting] using h
    show s.grantWindow w = s
    rw [State.grantWindow, hnote]

/-- R84, R88: a read point leaves what the channel has staged, flushed and reported. -/
theorem readPoint_queues (c : ChannelNo) :
    ∃ ch p, s.readPoint c = (s.setChan c ch).setPort p ∧ ch.ending = (s.chan c).ending ∧
      ch.flushCount = (s.chan c).flushCount ∧ ch.staged = (s.chan c).staged := by
  have hidle : ∃ ch p, s = (s.setChan c ch).setPort p ∧ ch.ending = (s.chan c).ending ∧
      ch.flushCount = (s.chan c).flushCount ∧ ch.staged = (s.chan c).staged :=
    ⟨s.chan c, s.port, by simp, rfl, rfl, rfl⟩
  have hrequest : ∃ ch p, s.requestRead c = (s.setChan c ch).setPort p ∧ ch.ending = (s.chan c).ending ∧
      ch.flushCount = (s.chan c).flushCount ∧ ch.staged = (s.chan c).staged := by
    unfold State.requestRead
    split
    · exact hidle
    · exact ⟨_, _, rfl, rfl, rfl, rfl⟩
  unfold State.readPoint
  repeat' split
  · exact hidle
  · exact ⟨_, s.port, rfl, rfl, rfl, rfl⟩
  · exact hrequest
  · exact hrequest
  · exact hidle
  · exact ⟨_, s.port, rfl, rfl, rfl, rfl⟩

/-- R66: a segment starts without an ending record and with the staged queue given. -/
theorem startSegment_queues (c : ChannelNo) (r : SegmentRecord) (staged : List SegmentRecord) :
    ∃ ch p, s.startSegment c r staged = (s.setChan c ch).setPort p ∧ ch.ending = none ∧
      ch.flushCount = (s.chan c).flushCount ∧ ch.staged = staged := by
  unfold State.startSegment
  obtain ⟨ch, p, h, hending, hflush, hstaged⟩ := readPoint_queues
    (s.setChan c { s.chan c with state := .assembling, current := some (segmentOf r), buffer := [], ending := none,
                                 staged := staged }) c
  rw [chan_setChan_same] at hending hflush hstaged
  exact ⟨ch, p, by rw [h, setChan_setChan], hending, hflush, hstaged⟩

/-- R72, R73, R76: a channel that leaves ENDING has given up its ending record, and stages no more than before. -/
theorem leaveEnding_queues (c : ChannelNo) (e : EndingRecord) :
    ∃ ch p, s.leaveEnding c e = (s.setChan c ch).setPort p ∧ ch.ending = none ∧
      ch.flushCount = (s.chan c).flushCount ∧ ch.staged.length ≤ (s.chan c).staged.length := by
  have hstart (r : SegmentRecord) (staged : List SegmentRecord) (hstaged : staged.length ≤ (s.chan c).staged.length) :
      ∃ ch p, s.startSegment c r staged = (s.setChan c ch).setPort p ∧ ch.ending = none ∧
        ch.flushCount = (s.chan c).flushCount ∧ ch.staged.length ≤ (s.chan c).staged.length := by
    obtain ⟨ch, p, h, hending, hflush, rfl⟩ := startSegment_queues s c r staged
    exact ⟨ch, p, h, hending, hflush, hstaged⟩
  have hretire (state : ChannelState) :
      ∃ ch p, s.retire c state = (s.setChan c ch).setPort p ∧ ch.ending = none ∧
        ch.flushCount = (s.chan c).flushCount ∧ ch.staged.length ≤ (s.chan c).staged.length :=
    ⟨_, s.port, rfl, rfl, rfl, (Nat.le_refl _)⟩
  unfold State.leaveEnding
  repeat' split
  next hstaged _ =>
    refine hstart _ _ ?_
    rw [hstaged, List.length_append]
    exact Nat.le_refl _
  next hstaged _ =>
    refine hstart _ _ ?_
    rw [hstaged]
    exact Nat.le_succ _
  · exact hstart _ _ (Nat.zero_le _)
  · exact hretire _
  · exact hretire _
  · exact hretire _

/-! ## The order list and the references (R24) -/

/-- R24: order list and census record alone decide. -/
theorem OrderSound.of_eq {s t : State} (h : s.OrderSound) (horder : t.order = s.order)
    (hcensus : t.membership.census = s.membership.census) : t.OrderSound := by
  unfold State.OrderSound
  rw [horder, hcensus]
  exact h

theorem note_census (n : NoteReason) : (s.note n).membership.census = s.membership.census := by
  rcases Nat.lt_or_ge s.log.records.length 32 with h | h
  · rw [note_of_room s n h, grant_membership _ rfl]
    rfl
  · rw [note_of_full s n h]
    rfl

theorem note_order (n : NoteReason) : (s.note n).order = s.order := by
  obtain ⟨m, l, h⟩ := note_shape s n
  rw [h]
  rfl

theorem orderSound_kept : KeptByBlocks State.OrderSound where
  frame h horder hmembership _ _ _ _ := h.of_eq horder (congrArg Membership.census hmembership)
  order _ hbefore h hlist := ⟨hlist hbefore, h.2⟩
  membership _ h _ _ hreferences := ⟨h.1, hreferences h⟩
  note n h := h.of_eq (note_order _ n) (note_census _ n)
  channel _ _ h _ _ _ := h.of_eq rfl rfl
  start _ _ h _ _ _ := h.of_eq rfl rfl
  endSegment c seg status h := by
    obtain ⟨ch, p, l, heq⟩ := endSegment_shape _ c seg status
    rw [heq]
    exact h.of_eq rfl rfl
  flush c h := by
    obtain ⟨ch, p, l, heq⟩ := offerChannel_shape _ c
    rw [heq]
    exact h.of_eq rfl rfl
  landing h ht _ _ := by
    rw [ht]
    exact h.of_eq rfl rfl
  window w h ht _ _ _ := by
    obtain ⟨x, l, heq⟩ := offerWindow_shape _ w
    rw [heq, ht]
    exact h.of_eq rfl rfl
  pop {s} h := by
    have hgranted (t : State) (p : Producer) (ht : t.OrderSound) : (t.grant p).OrderSound := by
      cases p with
      | membership =>
        show t.grantMembership.OrderSound
        unfold State.grantMembership
        split
        · exact ht
        · exact ht.of_eq rfl rfl
      | channel c =>
        obtain ⟨ch, p, l, heq⟩ := grantChannel_shape t c
        show (t.grantChannel c).OrderSound
        rw [heq]
        exact ht.of_eq rfl rfl
      | window w =>
        obtain ⟨x, l, heq⟩ := grantWindow_shape t w
        show (t.grantWindow w).OrderSound
        rw [heq]
        exact ht.of_eq rfl rfl
    unfold State.popRecord
    split
    · exact h
    · unfold State.grantFreed
      repeat' split
      · exact hgranted _ _ (h.of_eq rfl rfl)
      · exact h.of_eq rfl rfl
      · exact h.of_eq rfl rfl
  cleared _ := ⟨wellFormedList_nil, fun r hr => by cases hr⟩

end State

/-- Settles O55: a rotation permutes the list, and a census takes its list from a well-formed reference. -/
theorem orderListKept : Obligations.OrderListKept := fun _ _ h hstep => State.orderSound_kept.step (fun _ _ hs => hs) h hstep

namespace State

/-! ## Capacities (R39, R64, R79, R136, R138, R157) -/

theorem WithinLimits.chan {s : State} (h : s.WithinLimits) (c : ChannelNo) : (s.chan c).WithinLimits := h.2.2.2.1 c

theorem WithinLimits.win {s : State} (h : s.WithinLimits) (w : WindowNo) :
    (s.win w).committedFrames ≤ Config.frameCountLimit := h.2.2.2.2 w

/-- The five blocks alone decide. -/
theorem WithinLimits.of_eq {s t : State} (h : s.WithinLimits) (hmembership : t.membership = s.membership)
    (hchannels : t.channels = s.channels) (hlanding : t.landing = s.landing) (hlog : t.log = s.log) : t.WithinLimits := by
  unfold State.WithinLimits State.chan State.win
  rw [hmembership, hchannels, hlanding, hlog]
  exact h

theorem WithinLimits.setChan {s : State} (h : s.WithinLimits) (c : ChannelNo) {ch : Channel} (hch : ch.WithinLimits) :
    (s.setChan c ch).WithinLimits := by
  obtain ⟨hlog, hqueue, hcounter, hchan, hwin⟩ := h
  refine ⟨hlog, hqueue, hcounter, fun d => ?_, hwin⟩
  rw [chan_setChan]
  split
  · exact hch
  · exact hchan d

theorem WithinLimits.setMembership {s : State} (h : s.WithinLimits) {m : Membership}
    (hm : m.tenureCounter ≤ Config.tenureCounterLimit) : (s.setMembership m).WithinLimits := by
  obtain ⟨hlog, hqueue, _, hchan, hwin⟩ := h
  exact ⟨hlog, hqueue, hm, hchan, hwin⟩

theorem WithinLimits.landing {s t : State} (h : s.WithinLimits) (ht : t = s.setLanding t.landing)
    (hframes : ∀ w, (t.win w).committedFrames ≤ Config.frameCountLimit)
    (hqueue : t.landing.queue.length ≤ Config.landingCapacity) : t.WithinLimits := by
  obtain ⟨hlog, _, hcounter, hchan, _⟩ := h
  rw [ht]
  exact ⟨hlog, hqueue, hcounter, hchan, hframes⟩

/-- R157: a record enters only where the log has room. -/
theorem WithinLimits.place {s : State} (h : s.WithinLimits) (hroom : s.log.records.length < Config.logCapacity)
    (p : Producer) (r : Record) : (s.place p r).WithinLimits := by
  obtain ⟨_, hqueue, hcounter, hchan, hwin⟩ := h
  refine ⟨?_, hqueue, hcounter, hchan, hwin⟩
  show (s.log.records ++ [r]).length ≤ Config.logCapacity
  rw [List.length_append]
  exact hroom

/-- R73: leaving ENDING keeps the limits. -/
theorem WithinLimits.leaveEnding {s : State} (h : s.WithinLimits) (c : ChannelNo) (e : EndingRecord) :
    (s.leaveEnding c e).WithinLimits := by
  obtain ⟨ch, p, heq, -, hflush, hstaged⟩ := leaveEnding_queues s c e
  rw [heq]
  exact (h.setChan c ⟨Nat.le_trans hstaged (h.chan c).1, hflush ▸ (h.chan c).2⟩).of_eq rfl rfl rfl rfl

theorem WithinLimits.grant {s : State} (h : s.WithinLimits) (hroom : s.log.records.length < Config.logCapacity)
    (p : Producer) : (s.grant p).WithinLimits := by
  cases p with
  | membership =>
    show s.grantMembership.WithinLimits
    unfold State.grantMembership
    split
    · exact h
    · exact (h.place hroom _ _).setMembership h.2.2.1
  | channel c =>
    show (s.grantChannel c).WithinLimits
    unfold State.grantChannel
    repeat' split
    · exact (h.place hroom _ _).leaveEnding c _
    · exact (h.place hroom _ _).setChan c ⟨(h.chan c).1, Nat.zero_le _⟩
    · exact h
  | window w =>
    show (s.grantWindow w).WithinLimits
    unfold State.grantWindow
    split
    · exact h
    next e _ =>
      refine (h.place hroom (.window w) (s.landingRecord w e)).landing rfl (fun v => ?_) h.2.1
      rw [win_setWin]
      split
      · exact Nat.zero_le _
      · exact h.win v

theorem WithinLimits.offer {s : State} (h : s.WithinLimits) (p : Producer) : (s.offer p).WithinLimits := by
  unfold State.offer
  split
  next hroom => exact h.grant ((logHasRoom_iff s).1 hroom) p
  · exact h

theorem withinLimits_kept : KeptByBlocks State.WithinLimits where
  frame h _ hmembership hchannels hlanding hlog _ := h.of_eq hmembership hchannels hlanding hlog
  order _ _ h _ := h.of_eq rfl rfl rfl rfl
  membership m h _ hcounter _ := h.setMembership (hcounter.elim (fun heq => heq ▸ h.2.2.1) id)
  note n h := by
    unfold State.note
    refine WithinLimits.offer ?_ _
    exact h.setMembership h.2.2.1
  channel c ch h _ hflush hstaged :=
    h.setChan c ⟨hstaged.elim (fun hle => Nat.le_trans hle (h.chan c).1) id, hflush ▸ (h.chan c).2⟩
  start c ch h _ hflush hstaged := h.setChan c ⟨Nat.le_trans hstaged (h.chan c).1, hflush ▸ (h.chan c).2⟩
  endSegment c seg status h := by
    unfold State.endSegment
    refine WithinLimits.offer ?_ _
    exact h.setChan c ⟨(h.chan c).1, (h.chan c).2⟩
  flush c h := WithinLimits.offer (h.setChan c ⟨Nat.zero_le _, Nat.min_le_left _ _⟩) _
  landing h ht hwindows hqueue :=
    h.landing ht (fun w => (hwindows w).2.elim (fun heq => heq ▸ h.win w) id)
      (hqueue.elim (fun hle => Nat.le_trans hle h.2.1) id)
  window w h ht hothers hframes hqueue := by
    refine WithinLimits.offer (h.landing ht (fun v => ?_) (Nat.le_trans hqueue h.2.1)) _
    by_cases hv : v = w
    · rw [hv, hframes]
      exact h.win w
    · rw [hothers v hv]
      exact h.win v
  pop {s} h := by
    unfold State.popRecord
    split
    · exact h
    next r rest hrecords =>
      have hpopped : (s.setLog { s.log with records := rest }).WithinLimits := by
        obtain ⟨hlog, hothers⟩ := h
        rw [hrecords] at hlog
        exact ⟨Nat.le_trans (Nat.le_succ _) hlog, hothers⟩
      unfold State.grantFreed
      split
      next hroom =>
        split
        · exact hpopped.grant ((logHasRoom_iff _).1 hroom) _
        · exact hpopped
      · exact hpopped
  cleared {s} _ := by
    refine ⟨Nat.zero_le _, Nat.zero_le _, Nat.zero_le _, fun c => ?_, fun w => ?_⟩
    · have hreset : s.clearBlocks.chan c = Channel.reset := Vector.getElem_replicate _
      rw [hreset]
      exact ⟨Nat.zero_le _, Nat.zero_le _⟩
    · have hreset : s.clearBlocks.win w = Window.reset := Vector.getElem_replicate _
      rw [hreset]
      exact Nat.zero_le _

end State

/-- Settles O54: records, frames and segments are added only where there is room, and the counters saturate. -/
theorem limitsKept : Obligations.LimitsKept := fun _ _ h hstep => State.withinLimits_kept.step (fun _ _ hs => hs) h hstep

end Sys2Proof.Machine

namespace Sys2Proof.Machine

namespace State

/-! ## The producers of the log (R158, R160) -/

end State

/-- R159: the producers are numbered apart. -/
theorem producerNumber_inj {p q : Producer} (h : producerNumber p = producerNumber q) : p = q := by
  cases p with
  | membership =>
    cases q with
    | membership => rfl
    | channel d => simp only [producerNumber] at h; omega
    | window v => simp only [producerNumber] at h; omega
  | channel c =>
    cases q with
    | membership => simp only [producerNumber] at h; omega
    | channel d => exact congrArg Producer.channel (Fin.ext (by simp only [producerNumber] at h; omega))
    | window v => simp only [producerNumber] at h; omega
  | window w =>
    cases q with
    | membership => simp only [producerNumber] at h; omega
    | channel d => simp only [producerNumber] at h; omega
    | window v => exact congrArg Producer.window (Fin.ext (by simp only [producerNumber] at h; omega))

theorem producerNumber_lt (p : Producer) : producerNumber p < 21 := by
  cases p <;> simp only [producerNumber] <;> omega

theorem producerDistance_lt (pointer p : Producer) : producerDistance pointer p < 21 := Nat.mod_lt _ (by decide)

/-- R159: two producers do not stand equally far behind the grant pointer. -/
theorem producerDistance_inj {pointer p q : Producer} (h : producerDistance pointer p = producerDistance pointer q) :
    p = q := by
  have hp := producerNumber_lt p
  have hq := producerNumber_lt q
  have hpointer := producerNumber_lt pointer
  unfold producerDistance at h
  exact producerNumber_inj (by omega)

/-- R159: the log looks at the 21 producers in the order in which they stand behind the grant pointer. -/
theorem searchOrder_distances (pointer : Producer) :
    (searchOrder pointer).map (producerDistance pointer) = List.range 21 := by
  cases pointer with
  | membership => decide
  | channel c =>
    revert c
    decide
  | window w =>
    revert w
    decide

/-- R159: the log looks at every producer. -/
theorem mem_searchOrder (pointer p : Producer) : p ∈ searchOrder pointer := by
  have hmem : producerDistance pointer p ∈ (searchOrder pointer).map (producerDistance pointer) := by
    rw [searchOrder_distances]
    exact List.mem_range.2 (producerDistance_lt pointer p)
  obtain ⟨q, hq, hdistance⟩ := List.mem_map.1 hmem
  exact producerDistance_inj hdistance ▸ hq

namespace State

section

variable (s : State)

/-- R61, R71, R80, R144: a grant takes nothing from another producer and gives it nothing. -/
theorem grant_waiting_other {p q : Producer} (h : q ≠ p) : (s.grant p).waiting q = s.waiting q := by
  cases p with
  | membership =>
    obtain ⟨m, l, heq⟩ := grantMembership_shape s
    show (s.grantMembership).waiting q = _
    rw [heq]
    cases q with
    | membership => exact absurd rfl h
    | channel d => rfl
    | window v => rfl
  | channel c =>
    obtain ⟨ch, p, l, heq⟩ := grantChannel_shape s c
    show (s.grantChannel c).waiting q = _
    rw [heq]
    cases q with
    | membership => rfl
    | channel d =>
      have hcd : c ≠ d := fun hcd => h (hcd ▸ rfl)
      show ((s.setChan c ch).waiting (.channel d)) = _
      rw [State.waiting, chan_setChan_other _ _ _ _ hcd]
      rfl
    | window v => rfl
  | window w =>
    obtain ⟨x, l, heq⟩ := grantWindow_shape s w
    show (s.grantWindow w).waiting q = _
    rw [heq]
    cases q with
    | membership => rfl
    | channel d => rfl
    | window v =>
      have hwv : w ≠ v := fun hwv => h (hwv ▸ rfl)
      show ((s.setWin w x).waiting (.window v)) = _
      rw [State.waiting, win_setWin_other _ _ _ _ hwv]
      rfl

/-- The producer has at most one record to place: no channel has an ending record and a FLUSHED note. -/
def OneRecord : Producer → Prop
  | .membership => True
  | .channel c => (s.chan c).ending = none ∨ (s.chan c).flushCount = 0
  | .window _ => True

/-- R61, R71, R80, R144: a producer that places its one record waits no longer. -/
theorem grant_waiting_self {p : Producer} (h : s.OneRecord p) : (s.grant p).waiting p = false := by
  cases hwaits : s.waiting p with
  | false => rw [grant_of_not_waiting s hwaits, hwaits]
  | true =>
    cases p with
    | membership =>
      obtain ⟨n, hn⟩ := Option.isSome_iff_exists.1 hwaits
      rw [grant_membership s hn]
      rfl
    | channel c =>
      cases hending : (s.chan c).ending with
      | some e =>
        have hflush : (s.chan c).flushCount = 0 := h.resolve_left (by rw [hending]; exact Option.some_ne_none e)
        obtain ⟨ch, p, heq, hnone, hcount, -⟩ :=
          leaveEnding_queues (s.place (.channel c) (.segmentEnd e.report)) c e
        rw [grant_channel_ending s hending, heq]
        show ((s.place _ _).setChan c ch).waiting (.channel c) = false
        rw [State.waiting, chan_setChan_same, hnone, hcount]
        show (none.isSome || decide (0 < (s.chan c).flushCount)) = false
        rw [hflush]
        rfl
      | none =>
        have hflush : 0 < (s.chan c).flushCount := by
          rw [State.waiting, hending] at hwaits
          exact of_decide_eq_true hwaits
        rw [grant_channel_flushed s hending hflush, State.waiting, chan_setChan_same, hending]
        rfl
    | window w =>
      obtain ⟨e, he⟩ := Option.isSome_iff_exists.1 hwaits
      rw [grant_window s he, State.waiting, win_setWin_same]
      rfl

/-- R157: a producer that waits places one record. -/
theorem grant_log_length {p : Producer} (h : s.waiting p = true) :
    (s.grant p).log.records.length = s.log.records.length + 1 := by
  have hplace (q : Producer) (r : Record) : (s.place q r).log.records.length = s.log.records.length + 1 :=
    List.length_append
  cases p with
  | membership =>
    obtain ⟨n, hn⟩ := Option.isSome_iff_exists.1 h
    rw [grant_membership s hn]
    exact hplace _ _
  | channel c =>
    cases hending : (s.chan c).ending with
    | some e =>
      obtain ⟨ch, p, heq, -⟩ := leaveEnding_queues (s.place (.channel c) (.segmentEnd e.report)) c e
      rw [grant_channel_ending s hending, heq]
      exact hplace _ _
    | none =>
      have hflush : 0 < (s.chan c).flushCount := by
        rw [State.waiting, hending] at h
        exact of_decide_eq_true h
      rw [grant_channel_flushed s hending hflush]
      exact hplace _ _
  | window w =>
    obtain ⟨e, he⟩ := Option.isSome_iff_exists.1 h
    rw [grant_window s he]
    exact hplace _ _

/-- R159: where no producer is next, none waits. -/
theorem waiting_of_nextWaiting_none (h : s.nextWaiting = none) (p : Producer) : s.waiting p = false := by
  rw [Bool.eq_false_iff]
  exact List.find?_eq_none.1 h p (mem_searchOrder _ p)

/-- R160: after the freed slot has been granted no producer waits while the log has room, if at most one slot was
free or no producer waited. -/
theorem grantFreed_noIdleWaiter
    (h : s.log.records.length + 1 < Config.logCapacity → ∀ p, s.waiting p = false) : s.grantFreed.NoIdleWaiter := by
  unfold State.grantFreed
  split
  · split
    next p hp =>
      have hwaits : s.waiting p = true := List.find?_some hp
      intro hroom
      rw [grant_log_length s hwaits] at hroom
      have hquiet := h hroom p
      rw [hwaits] at hquiet
      cases hquiet
    next hnone => exact fun _ p => waiting_of_nextWaiting_none s hnone p
  next hfull => exact fun hroom => absurd ((logHasRoom_iff s).2 hroom) hfull

end

section

variable {s t : State}

/-- With room in the log no producer waits but perhaps `p`, which has one record to place. -/
def OnlyWaiter (s : State) (p : Producer) : Prop :=
  s.log.records.length < Config.logCapacity → s.OneRecord p ∧ ∀ q, q ≠ p → s.waiting q = false

/-- R160: the one producer that waits is offered to the log; after it none waits while the log has room. -/
theorem OnlyWaiter.offer {p : Producer} (h : s.OnlyWaiter p) : (s.offer p).NoIdleWaiter := by
  unfold State.offer
  split
  next hroom =>
    obtain ⟨hone, hothers⟩ := h ((logHasRoom_iff s).1 hroom)
    intro _ q
    by_cases hq : q = p
    · rw [hq]
      exact grant_waiting_self s hone
    · rw [grant_waiting_other s hq]
      exact hothers q hq
  next hfull => exact fun hroom => absurd ((logHasRoom_iff s).2 hroom) hfull

/-- The log and what waits decide. -/
theorem NoIdleWaiter.of_waiting (h : s.NoIdleWaiter) (hlog : t.log = s.log) (hwaiting : ∀ p, t.waiting p = s.waiting p) :
    t.NoIdleWaiter := by
  intro hroom p
  rw [hwaiting]
  exact h (hlog ▸ hroom) p

/-- Where no producer waited, only the one that an event concerns can wait after it. -/
theorem NoIdleWaiter.onlyWaiter (h : s.NoIdleWaiter) {p : Producer} (hlog : t.log = s.log)
    (hone : (∀ q, s.waiting q = false) → t.OneRecord p) (hothers : ∀ q, q ≠ p → t.waiting q = s.waiting q) :
    t.OnlyWaiter p := by
  intro hroom
  have hquiet := h (hlog ▸ hroom)
  exact ⟨hone hquiet, fun q hq => (hothers q hq).trans (hquiet q)⟩

/-- A channel that is rewritten is seen by its own producer alone. -/
theorem waiting_setChan_other (c : ChannelNo) (ch : Channel) {q : Producer} (h : q ≠ .channel c) :
    (s.setChan c ch).waiting q = s.waiting q := by
  cases q with
  | membership => rfl
  | window w => rfl
  | channel d =>
    rw [State.waiting, chan_setChan_other _ _ _ _ fun hcd => h (congrArg Producer.channel hcd.symm)]
    rfl

theorem quiet_channel (h : ∀ q, s.waiting q = false) (c : ChannelNo) :
    (s.chan c).ending = none ∧ (s.chan c).flushCount = 0 := by
  simpa [State.waiting] using h (.channel c)

theorem noIdleWaiter_kept : KeptByBlocks State.NoIdleWaiter where
  frame {s t} h _ hmembership hchannels hlanding hlog _ := by
    refine h.of_waiting hlog fun p => ?_
    unfold State.waiting State.chan State.win
    rw [hmembership, hchannels, hlanding]
  order _ _ h _ := h.of_waiting rfl fun p => by cases p <;> rfl
  membership {s} m h hnote _ _ := by
    refine h.of_waiting rfl fun p => ?_
    cases p with
    | membership => exact congrArg Option.isSome hnote
    | channel c => rfl
    | window w => rfl
  note {s} n h := by
    refine OnlyWaiter.offer (h.onlyWaiter rfl (fun _ => trivial) fun q hq => ?_)
    cases q with
    | membership => exact absurd rfl hq
    | channel c => rfl
    | window w => rfl
  channel {s} c ch h hending hflush _ := by
    refine h.of_waiting rfl fun p => ?_
    by_cases hp : p = .channel c
    · rw [hp, State.waiting, chan_setChan_same, hending, hflush]
      rfl
    · exact waiting_setChan_other c ch hp
  start {s} c ch h hending hflush _ := by
    intro hroom p
    have hquiet := h hroom
    by_cases hp : p = .channel c
    · rw [hp, State.waiting, chan_setChan_same, hending, hflush, (quiet_channel hquiet c).2]
      rfl
    · rw [waiting_setChan_other c ch hp]
      exact hquiet p
  endSegment {s} c seg status h := by
    refine OnlyWaiter.offer (h.onlyWaiter rfl (fun hquiet => .inr ?_) fun q hq => waiting_setChan_other c _ hq)
    rw [chan_setChan_same]
    exact (quiet_channel hquiet c).2
  flush {s} c h := by
    refine OnlyWaiter.offer (h.onlyWaiter rfl (fun hquiet => .inl ?_) fun q hq => waiting_setChan_other c _ hq)
    rw [chan_setChan_same]
    exact (quiet_channel hquiet c).1
  landing {s t} h ht hwindows _ := by
    refine h.of_waiting (by rw [ht]; rfl) fun p => ?_
    cases p with
    | membership => rw [ht]; rfl
    | channel c => rw [ht]; rfl
    | window w => exact congrArg Option.isSome (hwindows w).1
  window {s t} w h ht hothers _ _ := by
    refine OnlyWaiter.offer (h.onlyWaiter (by rw [ht]; rfl) (fun _ => trivial) fun q hq => ?_)
    cases q with
    | membership => rw [ht]; rfl
    | channel c => rw [ht]; rfl
    | window v =>
      rw [State.waiting, hothers v fun hv => hq (hv ▸ rfl)]
      rfl
  pop {s} h := by
    unfold State.popRecord
    split
    · exact h
    next r rest hrecords =>
      refine grantFreed_noIdleWaiter _ fun hroom p => ?_
      have hsame : (s.setLog { s.log with records := rest }).waiting p = s.waiting p := by cases p <;> rfl
      rw [hsame]
      refine h ?_ p
      rw [hrecords]
      exact hroom
  cleared {s} _ := by
    intro _ p
    cases p with
    | membership => rfl
    | channel c =>
      have hreset : s.clearBlocks.chan c = Channel.reset := Vector.getElem_replicate _
      rw [State.waiting, hreset]
      rfl
    | window w =>
      have hreset : s.clearBlocks.win w = Window.reset := Vector.getElem_replicate _
      rw [State.waiting, hreset]
      rfl

end

end State

/-- Settles O56: an event makes at most one producer wait, which is offered to the log at once; a pop frees one slot. -/
theorem noProducerWaitsWithRoom : Obligations.NoProducerWaitsWithRoom :=
  fun _ _ h hstep => State.noIdleWaiter_kept.step (fun _ _ hs => hs) h hstep

end Sys2Proof.Machine

namespace Sys2Proof.Machine

/-! ## Searches along a list in order of distance (R95, R153, R159) -/

/-- Along a list in ascending order of a key, the first element found is the least one. -/
theorem find?_eq_some_iff_least {α : Type} {key : α → Nat} {l : List α} (hsorted : l.Pairwise fun a b => key a < key b)
    (f : α → Bool) (c : α) :
    l.find? f = some c ↔ c ∈ l ∧ f c = true ∧ ∀ d ∈ l, f d = true → key c ≤ key d := by
  induction l with
  | nil => simp
  | cons a rest ih =>
    obtain ⟨hfirst, hrest⟩ := List.pairwise_cons.1 hsorted
    cases ha : f a with
    | true =>
      rw [List.find?_cons_of_pos ha]
      constructor
      · rintro ⟨⟩
        refine ⟨List.mem_cons_self, ha, fun d hd _ => ?_⟩
        rcases List.mem_cons.1 hd with rfl | hd
        · exact Nat.le_refl _
        · exact Nat.le_of_lt (hfirst d hd)
      · rintro ⟨hc, _, hleast⟩
        rcases List.mem_cons.1 hc with rfl | hc
        · rfl
        · exact absurd (hleast a List.mem_cons_self ha) (Nat.not_le_of_lt (hfirst c hc))
    | false =>
      rw [List.find?_cons_of_neg (by simp [ha]), ih hrest]
      simp only [List.mem_cons, forall_eq_or_imp, ha, Bool.false_eq_true, false_imp_iff, true_and]
      refine and_congr_left fun ⟨hc, _⟩ => (or_iff_right ?_).symm
      rintro rfl
      rw [ha] at hc
      cases hc

/-- A search for the first element with a value, its value taken with it. -/
theorem findSome?_map_pair {α β : Type} (l : List α) (g : α → Option β) :
    (l.findSome? fun c => (g c).map fun r => (c, r)) =
      (l.find? fun c => (g c).isSome).bind fun c => (g c).map fun r => (c, r) := by
  induction l with
  | nil => rfl
  | cons a rest ih =>
    rw [List.findSome?_cons, List.find?_cons]
    cases ha : g a with
    | none => exact ih
    | some r => simp [ha]

/-- R95, R153: the channels in the order in which they stand behind one of them. -/
theorem channelsAfter_sorted (last : ChannelNo) :
    (channelsAfter last).Pairwise fun a b => channelDistance last a < channelDistance last b := by
  revert last
  decide

theorem mem_channelsAfter (last c : ChannelNo) : c ∈ channelsAfter last := by
  revert last c
  decide

/-- R95, R153: the channel found is the nearest one behind `last`. -/
theorem find?_channelsAfter (last c : ChannelNo) (f : ChannelNo → Bool) :
    (channelsAfter last).find? f = some c ↔
      f c = true ∧ ∀ d, f d = true → channelDistance last c ≤ channelDistance last d := by
  rw [find?_eq_some_iff_least (channelsAfter_sorted last)]
  constructor
  · exact fun ⟨_, hc, hleast⟩ => ⟨hc, fun d => hleast d (mem_channelsAfter last d)⟩
  · exact fun ⟨hc, hleast⟩ => ⟨mem_channelsAfter last c, hc, fun d _ => hleast d⟩

/-! ## The arbiter (R153) -/

namespace MemPort

variable {p : MemPort}

theorem serve_of_write {w : WriteRequest} (h : p.write = some w) :
    p.serve = { p with inFlight := some (.write w), write := none } := by
  rw [MemPort.serve, h]

theorem serve_of_read (hwrite : p.write = none) {c : ChannelNo} {r : ReadRequest} (hr : p.reads[c] = some r)
    (hnearest : ∀ d : ChannelNo, (p.reads[d]).isSome = true →
      channelDistance p.lastServed c ≤ channelDistance p.lastServed d) :
    p.serve = { p with inFlight := some (.read c r), reads := p.reads.set c none, lastServed := c } := by
  have hsome : (p.reads[c]).isSome = true := Option.isSome_iff_exists.2 ⟨r, hr⟩
  have hfound : (channelsAfter p.lastServed).find? (fun c => (p.reads[c]).isSome) = some c :=
    (find?_channelsAfter _ _ _).2 ⟨hsome, hnearest⟩
  have hpair : ((channelsAfter p.lastServed).findSome? fun c => p.reads[c].map fun r => (c, r)) = some (c, r) := by
    rw [findSome?_map_pair, hfound, Option.bind_some, hr, Option.map_some]
  rw [MemPort.serve, hwrite]
  dsimp only
  rw [hpair]

theorem serve_of_none (hwrite : p.write = none) (hreads : ∀ c : ChannelNo, p.reads[c] = none) : p.serve = p := by
  have hpair : ((channelsAfter p.lastServed).findSome? fun c => p.reads[c].map fun r => (c, r)) = none := by
    refine List.findSome?_eq_none_iff.2 fun c _ => ?_
    rw [hreads c]
    rfl
  rw [MemPort.serve, hwrite]
  dsimp only
  rw [hpair]

/-- R153: what the arbiter can do with the requests that wait. -/
theorem serve_cases (p : MemPort) :
    (∃ w, p.write = some w ∧ p.serve = { p with inFlight := some (.write w), write := none }) ∨
      (∃ (c : ChannelNo) (r : ReadRequest), p.write = none ∧ p.reads[c] = some r ∧
        p.serve = { p with inFlight := some (.read c r), reads := p.reads.set c none, lastServed := c }) ∨
      (p.write = none ∧ (∀ c : ChannelNo, p.reads[c] = none) ∧ p.serve = p) := by
  rcases Option.eq_none_or_eq_some p.write with hwrite | ⟨w, hwrite⟩
  · cases hfound : (channelsAfter p.lastServed).find? (fun c => (p.reads[c]).isSome) with
    | some c =>
      obtain ⟨hsome, hnearest⟩ := (find?_channelsAfter _ _ _).1 hfound
      obtain ⟨r, hr⟩ := Option.isSome_iff_exists.1 hsome
      exact .inr (.inl ⟨c, r, hwrite, hr, serve_of_read hwrite hr hnearest⟩)
    | none =>
      have hreads (c : ChannelNo) : p.reads[c] = none := by
        have hc := List.find?_eq_none.1 hfound c (mem_channelsAfter _ c)
        rwa [Option.not_isSome_iff_eq_none] at hc
      exact .inr (.inr ⟨hwrite, hreads, serve_of_none hwrite hreads⟩)
  · exact .inl ⟨w, hwrite, serve_of_write hwrite⟩

theorem reads_set (p : MemPort) (c d : ChannelNo) (x : Option ReadRequest) :
    (p.reads.set c x)[d] = if c = d then x else p.reads[d] := by
  show (p.reads.set c x)[d.val] = _
  rw [Vector.getElem_set]
  exact ite_congr_of_iff Fin.ext_iff.symm rfl rfl

/-! ## The requests the port holds (R150, R153) -/

/-- The read requests of a channel that the port holds: those that wait, and the one in flight unless its completion has
been `answered` and is being dealt with. -/
def Holds (p : MemPort) (answered : Bool) (c : ChannelNo) (r : ReadRequest) : Prop :=
  p.reads[c] = some r ∨ (answered = false ∧ p.Carries c r)

/-- R153: serving moves a request from those that wait to the one in flight. -/
theorem holds_serve (hidle : p.inFlight = none) (horphan : p.orphan = false) (c : ChannelNo) (r : ReadRequest) :
    p.serve.Holds false c r ↔ p.reads[c] = some r := by
  rcases p.serve_cases with ⟨w, -, h⟩ | ⟨d, q, -, hq, h⟩ | ⟨-, -, h⟩
  · rw [h]
    simp [Holds, Carries]
  · rw [h]
    simp only [Holds, Carries, reads_set, horphan, true_and, and_true, Option.some.injEq, Access.read.injEq]
    by_cases hdc : d = c
    · subst hdc
      simp [hq]
    · simp [hdc]
  · rw [h]
    simp [Holds, Carries, hidle]

theorem serve_reads_or_carries (hidle : p.inFlight = none) (c : ChannelNo) (r r' : ReadRequest)
    (hwaits : p.serve.reads[c] = some r) : ¬ p.serve.Carries c r' := by
  rcases p.serve_cases with ⟨w, -, h⟩ | ⟨d, q, -, hq, h⟩ | ⟨-, -, h⟩
  · rw [h]
    simp [Carries]
  · rw [h] at hwaits ⊢
    simp only [reads_set] at hwaits
    rintro ⟨hcarries, -⟩
    simp only [Option.some.injEq, Access.read.injEq] at hcarries
    rw [if_pos hcarries.1] at hwaits
    cases hwaits
  · rw [h]
    simp [Carries, hidle]

/-- R153: the arbiter leaves no request waiting while nothing is in flight. -/
theorem serve_sound (horphan : p.orphan = false) : p.serve.Sound := by
  rcases p.serve_cases with ⟨w, -, h⟩ | ⟨d, q, -, hq, h⟩ | ⟨hwrite, hreads, h⟩
  · rw [h]
    exact ⟨fun hnone => (by cases hnone), fun _ => rfl⟩
  · rw [h]
    exact ⟨fun hnone => (by cases hnone), fun _ => rfl⟩
  · rw [h]
    exact ⟨fun _ => ⟨hwrite, hreads⟩, fun htrue => by rw [horphan] at htrue; cases htrue⟩

/-- R152, R156: after a completion the port holds the requests that waited. -/
theorem holds_finish (p : MemPort) (c : ChannelNo) (r : ReadRequest) :
    p.finish.Holds false c r ↔ p.reads[c] = some r := holds_serve (p := { p with inFlight := none, orphan := false }) rfl rfl c r

theorem finish_sound (p : MemPort) : p.finish.Sound := serve_sound rfl

/-- A channel's request does not stand twice with the port. -/
def Once (p : MemPort) : Prop := ∀ (c : ChannelNo) (r r' : ReadRequest), p.reads[c] = some r → ¬ p.Carries c r'

theorem finish_once (p : MemPort) : p.finish.Once := serve_reads_or_carries (p := { p with inFlight := none, orphan := false }) rfl

/-- With nothing in flight nothing is an orphan. -/
theorem Sound.orphan_of_idle (h : p.Sound) (hidle : p.inFlight = none) : p.orphan = false := by
  cases horphan : p.orphan with
  | false => rfl
  | true =>
    have hsome := h.2 horphan
    rw [hidle] at hsome
    cases hsome

theorem isNone_ne_true {α : Type} {x : Option α} (h : x.isSome = true) : ¬ x.isNone = true := by
  rw [Option.isNone_iff_eq_none]
  exact Option.isSome_iff_ne_none.1 h

theorem requestRead_of_busy (hbusy : p.inFlight.isSome = true) (c : ChannelNo) (r : ReadRequest) :
    p.requestRead c r = { p with reads := p.reads.set c (some r) } := by
  exact if_neg (isNone_ne_true hbusy)

theorem requestWrite_of_busy (hbusy : p.inFlight.isSome = true) (w : WriteRequest) :
    p.requestWrite w = { p with write := some w } := by
  exact if_neg (isNone_ne_true hbusy)

theorem requestWrite_of_idle (hidle : p.inFlight = none) (w : WriteRequest) (hwrite : p.write = none) :
    p.requestWrite w = { p with inFlight := some (.write w) } := by
  rw [MemPort.requestWrite, MemPort.settle, if_pos (by simp [hidle]), serve_of_write rfl, ← hwrite]

theorem requestRead_of_idle (hidle : p.inFlight = none) (hwrite : p.write = none)
    (hreads : ∀ d : ChannelNo, p.reads[d] = none) (c : ChannelNo) (r : ReadRequest) :
    p.requestRead c r = { p with inFlight := some (.read c r), lastServed := c } := by
  have hset (d : ChannelNo) : (p.reads.set c (some r))[d] = if c = d then some r else none := by
    rw [reads_set, hreads]
  have hback : (p.reads.set c (some r)).set c none = p.reads := by
    rw [Vector.set_set, ← hreads c]
    exact Vector.set_getElem_self _
  have hserve := serve_of_read (p := { p with reads := p.reads.set c (some r) }) hwrite
    (c := c) (r := r) (by rw [hset, if_pos rfl]) fun d hd => by
      rw [hset] at hd
      split at hd
      next heq => exact Nat.le_of_eq (by rw [heq])
      next => cases hd
  rw [MemPort.requestRead, MemPort.settle, if_pos (by simp [hidle]), hserve]
  dsimp only
  rw [hback]

/-- R150, R153: a channel that holds no request has the one it makes, and no other channel's requests change. -/
theorem holds_requestRead (h : p.Sound) {answered : Bool} (hanswered : answered = true → p.inFlight.isSome = true)
    {c : ChannelNo} (hfree : ∀ r, ¬ p.Holds answered c r) (r : ReadRequest) (d : ChannelNo) (q : ReadRequest) :
    (p.requestRead c r).Holds answered d q ↔ if c = d then q = r else p.Holds answered d q := by
  cases hflight : p.inFlight with
  | none =>
    obtain ⟨hwrite, hreads⟩ := h.1 hflight
    have hfalse : answered = false := by
      cases answered with
      | false => rfl
      | true =>
        have hbusy := hanswered rfl
        rw [hflight] at hbusy
        cases hbusy
    have horphan := h.orphan_of_idle hflight
    rw [requestRead_of_idle hflight hwrite hreads]
    simp only [Holds, Carries, hreads, hflight, horphan, hfalse]
    split
    next heq => simp [heq, eq_comm]
    next hne => simp [hne]
  | some x =>
    have hbusy : p.inFlight.isSome = true := by rw [hflight]; rfl
    rw [requestRead_of_busy hbusy]
    simp only [Holds, Carries, reads_set]
    split
    next heq =>
      subst heq
      have hnot : ¬ (answered = false ∧ p.Carries c q) := fun hq => hfree q (.inr hq)
      show some r = some q ∨ (answered = false ∧ p.Carries c q) ↔ q = r
      rw [or_iff_left hnot, Option.some.injEq]
      exact eq_comm
    next => rfl

theorem requestRead_sound (h : p.Sound) (c : ChannelNo) (r : ReadRequest) : (p.requestRead c r).Sound := by
  cases hflight : p.inFlight with
  | none =>
    obtain ⟨hwrite, hreads⟩ := h.1 hflight
    rw [requestRead_of_idle hflight hwrite hreads]
    exact ⟨fun hnone => (by cases hnone), fun _ => rfl⟩
  | some x =>
    have hbusy : p.inFlight.isSome = true := by rw [hflight]; rfl
    rw [requestRead_of_busy hbusy]
    refine ⟨fun hnone => ?_, fun _ => hbusy⟩
    rw [show p.inFlight = none from hnone] at hbusy
    cases hbusy

theorem requestRead_busy (hbusy : p.inFlight.isSome = true) (c : ChannelNo) (r : ReadRequest) :
    (p.requestRead c r).inFlight.isSome = true := by
  rw [requestRead_of_busy hbusy]
  exact hbusy

theorem requestRead_once (h : p.Sound) (honce : p.Once) {c : ChannelNo} (hfree : ∀ r, ¬ p.Carries c r)
    (r : ReadRequest) : (p.requestRead c r).Once := by
  intro d q q' hwaits hcarries
  cases hflight : p.inFlight with
  | none =>
    obtain ⟨hwrite, hreads⟩ := h.1 hflight
    rw [requestRead_of_idle hflight hwrite hreads] at hwaits
    rw [show p.reads[d] = none from hreads d] at hwaits
    cases hwaits
  | some x =>
    have hbusy : p.inFlight.isSome = true := by rw [hflight]; rfl
    rw [requestRead_of_busy hbusy] at hwaits hcarries
    have hcarries : p.Carries d q' := hcarries
    rw [reads_set] at hwaits
    split at hwaits
    next heq => exact hfree q' (heq ▸ hcarries)
    next => exact honce d q q' hwaits hcarries

/-- R150: the landing writer's request touches no channel's. -/
theorem holds_requestWrite (h : p.Sound) (w : WriteRequest) (answered : Bool) (c : ChannelNo) (r : ReadRequest) :
    (p.requestWrite w).Holds answered c r ↔ p.Holds answered c r := by
  cases hflight : p.inFlight with
  | none =>
    rw [requestWrite_of_idle hflight w (h.1 hflight).1]
    simp [Holds, Carries, hflight]
  | some x =>
    rw [requestWrite_of_busy (by rw [hflight]; rfl)]
    rfl

theorem requestWrite_sound (h : p.Sound) (w : WriteRequest) : (p.requestWrite w).Sound := by
  cases hflight : p.inFlight with
  | none =>
    rw [requestWrite_of_idle hflight w (h.1 hflight).1]
    exact ⟨fun hnone => (by cases hnone), fun _ => rfl⟩
  | some x =>
    have hbusy : p.inFlight.isSome = true := by rw [hflight]; rfl
    rw [requestWrite_of_busy hbusy]
    refine ⟨fun hnone => ?_, fun _ => hbusy⟩
    rw [show p.inFlight = none from hnone] at hbusy
    cases hbusy

theorem requestWrite_once (h : p.Sound) (honce : p.Once) (w : WriteRequest) : (p.requestWrite w).Once := by
  cases hflight : p.inFlight with
  | none =>
    rw [requestWrite_of_idle hflight w (h.1 hflight).1]
    intro c r r' _ hcarries
    cases hcarries.1
  | some x =>
    rw [requestWrite_of_busy (by rw [hflight]; rfl)]
    exact honce

end MemPort

end Sys2Proof.Machine

namespace Sys2Proof.Machine

open Answered

/-! ## What a channel holds in each of its states (R67, R77, R82, R87, R92, R100, R107, R110) -/

namespace Channel

variable {ch : Channel} {seg : Segment}

theorem sound_idle (h : ch.state = .idle) : ch.Sound ↔ (∀ r ∈ ch.staged, r.valid = true) ∧ ch.Empty := by
  unfold Channel.Sound
  rw [h]

theorem sound_halted (h : ch.state = .halted) : ch.Sound ↔ (∀ r ∈ ch.staged, r.valid = true) ∧ ch.Empty := by
  unfold Channel.Sound
  rw [h]

theorem sound_assembling (h : ch.state = .assembling) (hseg : ch.current = some seg) :
    ch.Sound ↔ (∀ r ∈ ch.staged, r.valid = true) ∧
      seg.record.valid = true ∧ seg.Accounted ch.buffer ∧ seg.PointerSound ∧ 0 < seg.unread ∧
        ch.buffer.length < seg.record.tenureSize ∧ seg.retry = 0 ∧ seg.stopPending = false ∧ ch.ending = none ∧
        (ch.deferred = true → ch.readOutstanding = true ∧ ch.buffer = []) := by
  unfold Channel.Sound
  rw [h, hseg]

theorem sound_ready (h : ch.state = .ready) (hseg : ch.current = some seg) :
    ch.Sound ↔ (∀ r ∈ ch.staged, r.valid = true) ∧
      seg.record.valid = true ∧ seg.Accounted ch.buffer ∧ seg.PointerSound ∧ ch.buffer ≠ [] ∧
        ch.buffer.length ≤ seg.record.tenureSize ∧ seg.retry < Config.retryLimit ∧ seg.stopPending = false ∧
        ch.ending = none ∧ ch.deferred = false ∧ ch.readOutstanding = false := by
  unfold Channel.Sound
  rw [h, hseg]

theorem sound_onBus (h : ch.state = .onBus) (hseg : ch.current = some seg) :
    ch.Sound ↔ (∀ r ∈ ch.staged, r.valid = true) ∧
      seg.record.valid = true ∧ seg.Accounted ch.buffer ∧ seg.PointerSound ∧ ch.buffer ≠ [] ∧
        ch.buffer.length ≤ seg.record.tenureSize ∧ seg.retry < Config.retryLimit ∧
        ch.ending = none ∧ ch.deferred = false ∧ ch.readOutstanding = false := by
  unfold Channel.Sound
  rw [h, hseg]

theorem sound_ending (h : ch.state = .ending) (hseg : ch.current = some seg) :
    ch.Sound ↔ (∀ r ∈ ch.staged, r.valid = true) ∧
      seg.record.valid = true ∧ seg.Accounted [] ∧ ch.buffer = [] ∧ seg.retry ≤ Config.retryLimit ∧
        seg.stopPending = false ∧ ch.deferred = false ∧
        ∃ e, ch.ending = some e ∧ e.report.committed = seg.committed ∧ e.report.retry = seg.retry := by
  unfold Channel.Sound
  rw [h, hseg]

/-- R66: a channel that is neither IDLE nor HALTED has a current segment. -/
theorem Sound.current (h : ch.Sound) (hidle : ch.state ≠ .idle) (hhalted : ch.state ≠ .halted) :
    ∃ seg, ch.current = some seg := by
  obtain ⟨-, h⟩ := h
  cases hseg : ch.current with
  | some seg => exact ⟨seg, rfl⟩
  | none =>
    rw [hseg] at h
    cases hstate : ch.state with
    | idle => exact absurd hstate hidle
    | halted => exact absurd hstate hhalted
    | assembling | ready | onBus | ending =>
      rw [hstate] at h
      exact h.elim

/-- R69: only a channel in ENDING has an ending record. -/
theorem Sound.state_of_ending (h : ch.Sound) {e : EndingRecord} (he : ch.ending = some e) : ch.state = .ending := by
  have hno {P : Prop} (hnone : ch.ending = none) : P := by
    rw [hnone] at he
    cases he
  cases hstate : ch.state with
  | ending => rfl
  | idle =>
    obtain ⟨-, -, -, hnone, -⟩ := (sound_idle hstate).1 h
    exact hno hnone
  | halted =>
    obtain ⟨-, -, -, hnone, -⟩ := (sound_halted hstate).1 h
    exact hno hnone
  | assembling =>
    obtain ⟨seg, hseg⟩ := h.current (by simp [hstate]) (by simp [hstate])
    obtain ⟨-, -, -, -, -, -, -, -, hnone, -⟩ := (sound_assembling hstate hseg).1 h
    exact hno hnone
  | ready =>
    obtain ⟨seg, hseg⟩ := h.current (by simp [hstate]) (by simp [hstate])
    obtain ⟨-, -, -, -, -, -, -, -, hnone, -⟩ := (sound_ready hstate hseg).1 h
    exact hno hnone
  | onBus =>
    obtain ⟨seg, hseg⟩ := h.current (by simp [hstate]) (by simp [hstate])
    obtain ⟨-, -, -, -, -, -, -, hnone, -⟩ := (sound_onBus hstate hseg).1 h
    exact hno hnone

/-- R92: only a channel that is ASSEMBLING, with no frame held, has a deferred read point. -/
theorem Sound.of_deferred (h : ch.Sound) (hdeferred : ch.deferred = true) :
    ch.state = .assembling ∧ ch.buffer = [] := by
  have hno {P : Prop} (hfalse : ch.deferred = false) : P := by
    rw [hfalse] at hdeferred
    cases hdeferred
  cases hstate : ch.state with
  | idle =>
    obtain ⟨-, -, -, -, hfalse⟩ := (sound_idle hstate).1 h
    exact hno hfalse
  | halted =>
    obtain ⟨-, -, -, -, hfalse⟩ := (sound_halted hstate).1 h
    exact hno hfalse
  | assembling =>
    obtain ⟨seg, hseg⟩ := h.current (by simp [hstate]) (by simp [hstate])
    obtain ⟨-, -, -, -, -, -, -, -, -, hempty⟩ := (sound_assembling hstate hseg).1 h
    exact ⟨rfl, (hempty hdeferred).2⟩
  | ready =>
    obtain ⟨seg, hseg⟩ := h.current (by simp [hstate]) (by simp [hstate])
    obtain ⟨-, -, -, -, -, -, -, -, -, hfalse, -⟩ := (sound_ready hstate hseg).1 h
    exact hno hfalse
  | onBus =>
    obtain ⟨seg, hseg⟩ := h.current (by simp [hstate]) (by simp [hstate])
    obtain ⟨-, -, -, -, -, -, -, -, hfalse, -⟩ := (sound_onBus hstate hseg).1 h
    exact hno hfalse
  | ending =>
    obtain ⟨seg, hseg⟩ := h.current (by simp [hstate]) (by simp [hstate])
    obtain ⟨-, -, -, -, -, -, hfalse, -⟩ := (sound_ending hstate hseg).1 h
    exact hno hfalse

theorem stale_of_not_assembling (h : ch.state ≠ .assembling) : ch.readIsStale = true := by
  simp [Channel.readIsStale, h]

theorem not_stale_iff : ch.readIsStale = false ↔ ch.state = .assembling ∧ ch.deferred = false := by
  simp [Channel.readIsStale]

/-- R66, R84: a channel at a read point of its segment. -/
structure AtReadPoint (ch : Channel) (seg : Segment) : Prop where
  staged : ∀ r ∈ ch.staged, r.valid = true
  state : ch.state = .assembling
  current : ch.current = some seg
  valid : seg.record.valid = true
  accounted : seg.Accounted ch.buffer
  pointer : seg.PointerSound
  unread : 0 < seg.unread
  room : ch.buffer.length < seg.record.tenureSize
  retry : seg.retry = 0
  running : seg.stopPending = false
  ending : ch.ending = none
  deferred : ch.deferred = false
  /-- behind a stale read nothing of the segment is held yet -/
  stale : ch.readOutstanding = true → ch.buffer = []

end Channel

/-- R84: the read request of a segment at its source pointer. -/
def requestOf (seg : Segment) : ReadRequest := { addr := seg.pointer, count := min Config.frameBytes seg.unread }

/-- R107: a segment that can end: its bytes are accounted for, and its retries are within the limit. -/
def Segment.CanEnd (seg : Segment) : Prop :=
  seg.record.valid = true ∧ seg.committed + seg.held + seg.unread = seg.record.length ∧ seg.retry ≤ Config.retryLimit

/-- R66: the values with which a segment starts account for its bytes. -/
theorem segmentOf_sound {r : SegmentRecord} (hr : r.valid = true) :
    (segmentOf r).Accounted [] ∧ (segmentOf r).PointerSound ∧ 0 < (segmentOf r).unread ∧ 0 < r.tenureSize := by
  obtain ⟨hlength, -, htenure, -⟩ := (SegmentRecord.valid_iff r).1 hr
  refine ⟨⟨?_, rfl⟩, ?_, hlength, htenure⟩
  · show 0 + 0 + r.length = r.length
    omega
  · show r.source.toNat = r.source.toNat + 0 + 0
    omega

/-- A channel is sound, and agrees with the requests that the port holds for it and with its PACE input. -/
structure Channel.Fits (ch : Channel) (holds : ReadRequest → Prop) (pace : Bool) : Prop where
  sound : ch.Sound
  outstanding : ch.readOutstanding = true ↔ ∃ r, holds r
  request : ∀ r, holds r → ch.readIsStale = false → ∀ seg, ch.current = some seg → r = requestOf seg
  pacing : ch.state = .assembling → ch.readOutstanding = false →
    pace = false ∧ ch.buffer = [] ∧ ch.waitsForPace = true

namespace Channel

variable {ch : Channel} {seg : Segment} {holds : ReadRequest → Prop} {pace : Bool}

/-- A channel in another state than ASSEMBLING fits as soon as it is sound and knows of its read. -/
theorem Fits.of_not_assembling (hsound : ch.Sound) (houtstanding : ch.readOutstanding = true ↔ ∃ r, holds r)
    (hstate : ch.state ≠ .assembling) : ch.Fits holds pace where
  sound := hsound
  outstanding := houtstanding
  request r _ hfresh := by
    rw [stale_of_not_assembling hstate] at hfresh
    cases hfresh
  pacing h := absurd h hstate

theorem Fits.staged (h : ch.Fits holds pace) : ∀ r ∈ ch.staged, r.valid = true := h.sound.1

/-- A channel whose staged queue and FLUSHED note alone change. -/
theorem Fits.setStaged (h : ch.Fits holds pace) {staged : List SegmentRecord} (flushCount : Nat)
    (hstaged : ∀ r ∈ staged, r.valid = true) :
    ({ ch with staged := staged, flushCount := flushCount } : Channel).Fits holds pace where
  sound := ⟨hstaged, h.sound.2⟩
  outstanding := h.outstanding
  request := h.request
  pacing := h.pacing

/-- R84, R92: at a read point with no read outstanding, the request made is the one the segment asks for. -/
theorem AtReadPoint.fits_requested (h : ch.AtReadPoint seg) :
    ({ ch with readOutstanding := true } : Channel).Fits (fun r => r = requestOf seg) pace where
  sound := (sound_assembling (ch := { ch with readOutstanding := true }) h.state h.current).2
    ⟨h.staged, h.valid, h.accounted, h.pointer, h.unread, h.room, h.retry, h.running, h.ending,
      fun hdeferred => absurd hdeferred (by simp [h.deferred])⟩
  outstanding := ⟨fun _ => ⟨_, rfl⟩, fun _ => rfl⟩
  request r hr _ seg' hseg := by
    have hsame : seg = seg' := Option.some.inj (h.current.symm.trans hseg)
    exact hsame ▸ hr
  pacing _ hnone := by cases hnone

/-- R92: at a read point behind a stale read, the read point is deferred. -/
theorem AtReadPoint.fits_deferred (h : ch.AtReadPoint seg) (hread : ch.readOutstanding = true)
    (houtstanding : ch.readOutstanding = true ↔ ∃ r, holds r) :
    ({ ch with deferred := true } : Channel).Fits holds pace where
  sound := (sound_assembling (ch := { ch with deferred := true }) h.state h.current).2
    ⟨h.staged, h.valid, h.accounted, h.pointer, h.unread, h.room, h.retry, h.running, h.ending,
      fun _ => ⟨hread, h.stale hread⟩⟩
  outstanding := houtstanding
  request r _ hfresh := by
    rw [not_stale_iff] at hfresh
    cases hfresh.2
  pacing _ hnone := by
    rw [show ch.readOutstanding = false from hnone] at hread
    cases hread

/-- R88: at a read point with PACE inactive and frames held, the channel is READY. -/
theorem AtReadPoint.fits_ready (h : ch.AtReadPoint seg) (hread : ch.readOutstanding = false) (hheld : ch.buffer ≠ [])
    (houtstanding : ch.readOutstanding = true ↔ ∃ r, holds r) :
    ({ ch with state := .ready } : Channel).Fits holds pace := by
  refine Fits.of_not_assembling ?_ houtstanding (by simp)
  exact (sound_ready (ch := { ch with state := .ready }) rfl h.current).2
    ⟨h.staged, h.valid, h.accounted, h.pointer, hheld, Nat.le_of_lt h.room, by rw [h.retry]; decide, h.running, h.ending,
      h.deferred, hread⟩

/-- R88: at a read point with PACE inactive and no frame held, the channel waits. -/
theorem AtReadPoint.fits_waiting (h : ch.AtReadPoint seg) (hread : ch.readOutstanding = false)
    (hempty : ch.buffer = []) (hpaced : seg.record.pacing = .paced)
    (houtstanding : ch.readOutstanding = true ↔ ∃ r, holds r) : ch.Fits holds false where
  sound := (sound_assembling h.state h.current).2
    ⟨h.staged, h.valid, h.accounted, h.pointer, h.unread, h.room, h.retry, h.running, h.ending,
      fun hdeferred => absurd hdeferred (by simp [h.deferred])⟩
  outstanding := houtstanding
  request r hr := by
    have hsome := houtstanding.2 ⟨r, hr⟩
    rw [hread] at hsome
    cases hsome
  pacing _ _ := ⟨rfl, hempty, by simp [Channel.waitsForPace, h.state, hread, h.current, hpaced]⟩

/-- R66: a channel that has taken a new segment, with what it knew of its read, is at a read point. -/
theorem atReadPoint_of_start {r : SegmentRecord} {staged : List SegmentRecord} (hr : r.valid = true)
    (hstaged : ∀ q ∈ staged, q.valid = true) (hdeferred : ch.deferred = false) :
    ({ ch with state := .assembling, current := some (segmentOf r), buffer := [], ending := none,
               staged := staged } : Channel).AtReadPoint (segmentOf r) where
  staged := hstaged
  state := rfl
  current := rfl
  valid := hr
  accounted := (segmentOf_sound hr).1
  pointer := (segmentOf_sound hr).2.1
  unread := (segmentOf_sound hr).2.2.1
  room := (segmentOf_sound hr).2.2.2
  retry := rfl
  running := rfl
  ending := rfl
  deferred := hdeferred
  stale _ := rfl

/-- R68, R107: a channel in ENDING, its held bytes returned to the unread bytes. -/
theorem fits_ended (c : ChannelNo) (status : SegmentStatus) (hstaged : ∀ r ∈ ch.staged, r.valid = true)
    (hseg : seg.CanEnd) (houtstanding : ch.readOutstanding = true ↔ ∃ r, holds r) :
    ({ ch with
      state := .ending
      current := some { seg with held := 0, unread := seg.unread + seg.held, stopPending := false }
      buffer := []
      ending := some (endingOf c seg status)
      deferred := false } : Channel).Fits holds pace := by
  obtain ⟨hvalid, hbytes, hretry⟩ := hseg
  refine Fits.of_not_assembling ?_ houtstanding (by simp)
  refine (sound_ending (ch := { ch with
    state := .ending
    current := some { seg with held := 0, unread := seg.unread + seg.held, stopPending := false }
    buffer := []
    ending := some (endingOf c seg status)
    deferred := false }) rfl rfl).2
    ⟨hstaged, hvalid, ⟨?_, rfl⟩, rfl, hretry, rfl, rfl, _, rfl, rfl, rfl⟩
  show seg.committed + 0 + (seg.unread + seg.held) = seg.record.length
  omega

end Channel

namespace State

/-! ## The channels together with the port -/

/-- The port is sound, and every channel but perhaps `c` fits it. With `answered` the access in flight has completed and
is being dealt with. -/
structure OthersFit (s : State) (answered : Bool) (c : ChannelNo) : Prop where
  port : s.port.Sound
  busy : answered = true → s.port.inFlight.isSome = true
  once : answered = false → s.port.Once
  fits : ∀ d, d ≠ c → (s.chan d).Fits (s.port.Holds answered d) s.pace[d]

/-- The port is sound, and every channel fits it. -/
structure ChannelsFit (s : State) (answered : Bool) : Prop where
  port : s.port.Sound
  busy : answered = true → s.port.inFlight.isSome = true
  once : answered = false → s.port.Once
  fits : ∀ d, (s.chan d).Fits (s.port.Holds answered d) s.pace[d]

variable {s t : State} {answered : Bool} {c : ChannelNo}

theorem channelsSound_iff : s.ChannelsSound ↔ s.ChannelsFit false := by
  have hholds (c : ChannelNo) (r : ReadRequest) :
      s.port.Holds false c r ↔ s.port.reads[c] = some r ∨ s.port.Carries c r := by simp [MemPort.Holds]
  have hex (c : ChannelNo) : (∃ r, s.port.Holds false c r) ↔
      (∃ r, s.port.reads[c] = some r) ∨ ∃ r, s.port.Carries c r := by
    simp only [hholds, exists_or]
  constructor
  · rintro ⟨hport, hchannels⟩
    refine ⟨hport, fun h => (by cases h), fun _ c => (hchannels c).2.1.2.1, fun c => ?_⟩
    obtain ⟨hsound, ⟨houtstanding, -, hrequest⟩, hpace⟩ := hchannels c
    exact ⟨hsound, houtstanding.trans (hex c).symm, fun r hr => hrequest r ((hholds c r).1 hr), hpace⟩
  · rintro ⟨hport, -, honce, hfits⟩
    refine ⟨hport, fun c => ?_⟩
    obtain ⟨hsound, houtstanding, hrequest, hpace⟩ := hfits c
    exact ⟨hsound, ⟨houtstanding.trans (hex c), honce rfl c, fun r hr => hrequest r ((hholds c r).2 hr)⟩, hpace⟩

theorem ChannelsFit.others (h : s.ChannelsFit answered) (c : ChannelNo) : s.OthersFit answered c :=
  ⟨h.port, h.busy, h.once, fun d _ => h.fits d⟩

/-- Channels, port and PACE levels alone decide. -/
theorem ChannelsFit.of_eq (h : s.ChannelsFit answered) (hchannels : t.channels = s.channels) (hport : t.port = s.port)
    (hpace : t.pace = s.pace) : t.ChannelsFit answered := by
  have hchan (c : ChannelNo) : t.chan c = s.chan c := by rw [State.chan, State.chan, hchannels]
  refine ⟨hport ▸ h.port, hport ▸ h.busy, hport ▸ h.once, fun c => ?_⟩
  rw [hchan, hport, hpace]
  exact h.fits c

theorem OthersFit.of_eq (h : s.OthersFit answered c) (hchannels : t.channels = s.channels) (hport : t.port = s.port)
    (hpace : t.pace = s.pace) : t.OthersFit answered c := by
  have hchan (c : ChannelNo) : t.chan c = s.chan c := by rw [State.chan, State.chan, hchannels]
  refine ⟨hport ▸ h.port, hport ▸ h.busy, hport ▸ h.once, fun d hd => ?_⟩
  rw [hchan, hport, hpace]
  exact h.fits d hd

/-- Whatever the channel becomes, the others fit. -/
theorem OthersFit.setChan (h : s.OthersFit answered c) (ch : Channel) : (s.setChan c ch).OthersFit answered c := by
  refine ⟨h.port, h.busy, h.once, fun d hd => ?_⟩
  rw [chan_setChan_other s c d ch hd.symm]
  exact h.fits d hd

/-- With the others, the channel fits. -/
theorem OthersFit.channelsFit (h : s.OthersFit answered c) (hc : (s.chan c).Fits (s.port.Holds answered c) s.pace[c]) :
    s.ChannelsFit answered := by
  refine ⟨h.port, h.busy, h.once, fun d => ?_⟩
  by_cases hd : d = c
  · exact hd ▸ hc
  · exact h.fits d hd

/-- The channel rewritten so that it fits. -/
theorem OthersFit.setChan_fits (h : s.OthersFit answered c) {ch : Channel}
    (hch : ch.Fits (s.port.Holds answered c) s.pace[c]) : (s.setChan c ch).ChannelsFit answered := by
  refine (h.setChan ch).channelsFit ?_
  rw [chan_setChan_same]
  exact hch

/-- R84, R150: the channel makes its read request. -/
theorem OthersFit.requestRead (h : s.OthersFit answered c) {seg : Segment} (hpoint : (s.chan c).AtReadPoint seg)
    (hfree : ∀ r, ¬ s.port.Holds answered c r) : (s.requestRead c).ChannelsFit answered := by
  have hholds := MemPort.holds_requestRead h.port h.busy hfree (requestOf seg)
  have heq : s.requestRead c =
      (s.setChan c { s.chan c with readOutstanding := true }).setPort (s.port.requestRead c (requestOf seg)) := by
    rw [State.requestRead, hpoint.current]
    rfl
  rw [heq]
  refine OthersFit.channelsFit (c := c)
    ⟨MemPort.requestRead_sound h.port c _, fun ha => MemPort.requestRead_busy (h.busy ha) c _, fun ha => ?_,
      fun d hd => ?_⟩ ?_
  · refine MemPort.requestRead_once h.port (h.once ha) (fun r hr => hfree r (.inr ⟨ha, hr⟩)) _
  · have hsame : (s.port.requestRead c (requestOf seg)).Holds answered d = s.port.Holds answered d := by
      funext r
      rw [hholds d r, if_neg hd.symm]
    rw [chan_setPort, chan_setChan_other _ _ _ _ hd.symm]
    show (s.chan d).Fits ((s.port.requestRead c (requestOf seg)).Holds answered d) s.pace[d]
    rw [hsame]
    exact h.fits d hd
  · have hown : (s.port.requestRead c (requestOf seg)).Holds answered c = fun r => r = requestOf seg := by
      funext r
      rw [hholds c r, if_pos rfl]
    rw [chan_setPort, chan_setChan_same]
    show Channel.Fits _ ((s.port.requestRead c (requestOf seg)).Holds answered c) s.pace[c]
    rw [hown]
    exact hpoint.fits_requested

/-- R84, R88, R92: a read point. -/
theorem OthersFit.readPoint (h : s.OthersFit answered c) {seg : Segment} (hpoint : (s.chan c).AtReadPoint seg)
    (houtstanding : (s.chan c).readOutstanding = true ↔ ∃ r, s.port.Holds answered c r) :
    (s.readPoint c).ChannelsFit answered := by
  unfold State.readPoint
  rw [hpoint.current]
  dsimp only
  split
  next hread => exact h.setChan_fits (hpoint.fits_deferred hread houtstanding)
  next hread =>
    have hread : (s.chan c).readOutstanding = false := by simpa using hread
    have hfree (r : ReadRequest) (hr : s.port.Holds answered c r) : False := by
      have hsome := houtstanding.2 ⟨r, hr⟩
      rw [hread] at hsome
      cases hsome
    split
    · exact h.requestRead hpoint hfree
    · exact h.requestRead hpoint hfree
    next hpaced hpace =>
      split
      next hempty =>
        refine h.channelsFit ?_
        rw [hpace]
        exact hpoint.fits_waiting hread (List.isEmpty_iff.1 hempty) hpaced houtstanding
      next hheld =>
        exact h.setChan_fits (hpoint.fits_ready hread (fun hempty => hheld (List.isEmpty_iff.2 hempty)) houtstanding)

/-- R66: a segment starts in a channel that knows of its read. -/
theorem OthersFit.startSegment (h : s.OthersFit answered c) {r : SegmentRecord} {staged : List SegmentRecord}
    (hr : r.valid = true) (hstaged : ∀ q ∈ staged, q.valid = true) (hdeferred : (s.chan c).deferred = false)
    (houtstanding : (s.chan c).readOutstanding = true ↔ ∃ q, s.port.Holds answered c q) :
    (s.startSegment c r staged).ChannelsFit answered := by
  unfold State.startSegment
  refine (h.setChan _).readPoint (seg := segmentOf r) ?_ ?_
  · rw [chan_setChan_same]
    exact Channel.atReadPoint_of_start hr hstaged hdeferred
  · rw [chan_setChan_same]
    exact houtstanding

/-- R72, R73, R76: the channel leaves ENDING. -/
theorem ChannelsFit.leaveEnding (h : s.ChannelsFit answered) (hstate : (s.chan c).state = .ending) (e : EndingRecord) :
    (s.leaveEnding c e).ChannelsFit answered := by
  have hfits := h.fits c
  obtain ⟨seg, hseg⟩ := hfits.sound.current (by simp [hstate]) (by simp [hstate])
  obtain ⟨hstaged, hvalid, -, hbuffer, -, -, hdeferred, -⟩ := (Channel.sound_ending hstate hseg).1 hfits.sound
  have hretire (state : ChannelState) (hs : state = .idle ∨ state = .halted) :
      (s.retire c state).ChannelsFit answered := by
    refine (h.others c).setChan_fits (Channel.Fits.of_not_assembling ?_ hfits.outstanding ?_)
    · rcases hs with rfl | rfl
      · exact (Channel.sound_idle rfl).2 ⟨hstaged, rfl, hbuffer, rfl, hdeferred⟩
      · exact (Channel.sound_halted rfl).2 ⟨hstaged, rfl, hbuffer, rfl, hdeferred⟩
    · rcases hs with rfl | rfl <;> simp
  unfold State.leaveEnding
  rw [hseg]
  dsimp only
  split
  · split
    next r rest hqueue _ =>
      rw [hqueue] at hstaged
      refine (h.others c).startSegment (hstaged r List.mem_cons_self) (fun q hq => ?_) hdeferred hfits.outstanding
      rcases List.mem_append.1 hq with hq | hq
      · exact hstaged q (List.mem_cons_of_mem _ hq)
      · exact List.mem_singleton.1 hq ▸ hvalid
    next r rest hqueue _ =>
      rw [hqueue] at hstaged
      exact (h.others c).startSegment (hstaged r List.mem_cons_self)
        (fun q hq => hstaged q (List.mem_cons_of_mem _ hq)) hdeferred hfits.outstanding
    · exact (h.others c).startSegment hvalid (fun q hq => by cases hq) hdeferred hfits.outstanding
    · exact hretire _ (.inl rfl)
  · exact hretire _ (.inr rfl)

theorem ChannelsFit.grant (h : s.ChannelsFit answered) (p : Producer) : (s.grant p).ChannelsFit answered := by
  cases p with
  | membership =>
    obtain ⟨m, l, heq⟩ := grantMembership_shape s
    show (s.grantMembership).ChannelsFit answered
    rw [heq]
    exact h.of_eq rfl rfl rfl
  | window w =>
    obtain ⟨x, l, heq⟩ := grantWindow_shape s w
    show (s.grantWindow w).ChannelsFit answered
    rw [heq]
    exact h.of_eq rfl rfl rfl
  | channel c =>
    show (s.grantChannel c).ChannelsFit answered
    unfold State.grantChannel
    split
    next e he =>
      have hplaced : (s.place (.channel c) (.segmentEnd e.report)).ChannelsFit answered := h.of_eq rfl rfl rfl
      exact hplaced.leaveEnding ((h.fits c).sound.state_of_ending he) e
    next =>
      split
      · have hplaced : (s.place (.channel c) (.flushed c (s.chan c).flushCount)).ChannelsFit answered :=
          h.of_eq rfl rfl rfl
        exact (hplaced.others c).setChan_fits ((h.fits c).setStaged 0 (h.fits c).staged)
      · exact h

theorem ChannelsFit.offer (h : s.ChannelsFit answered) (p : Producer) : (s.offer p).ChannelsFit answered := by
  unfold State.offer
  split
  · exact h.grant p
  · exact h

/-- R68: a segment ends in a channel that knows of its read. -/
theorem OthersFit.endSegment (h : s.OthersFit answered c) {seg : Segment} (status : SegmentStatus)
    (hstaged : ∀ r ∈ (s.chan c).staged, r.valid = true) (hseg : seg.CanEnd)
    (houtstanding : (s.chan c).readOutstanding = true ↔ ∃ r, s.port.Holds answered c r) :
    (s.endSegment c seg status).ChannelsFit answered := by
  unfold State.endSegment
  exact ChannelsFit.offer (h.setChan_fits (Channel.fits_ended c status hstaged hseg houtstanding)) _

end State

end Sys2Proof.Machine

namespace Sys2Proof.Machine

open Answered

/-! ## Bytes of a read (R85, R151) -/

theorem wordsBytes_length (words : List Word) : (words.flatMap wordBytes).length = 4 * words.length := by
  induction words with
  | nil => rfl
  | cons w rest ih =>
    rw [List.flatMap_cons, List.length_append, ih, List.length_cons]
    show 4 + _ = _
    omega

/-- R151: a read has as many bytes as it asked for. -/
theorem readBytes_length {a n : Nat} {words : List Word} (h : words.length = accessSpan a n) :
    (readBytes a n words).length = n := by
  rw [readBytes, List.length_take, List.length_drop, wordsBytes_length, h, accessSpan]
  omega

theorem bufferBytes_append (buffer : List HeldFrame) (f : HeldFrame) :
    bufferBytes (buffer ++ [f]) = bufferBytes buffer + f.payload.length := by
  simp [bufferBytes]

/-- R92: outside ASSEMBLING a stale read can be dropped. -/
theorem Channel.Sound.dropRead {ch : Channel} (h : ch.Sound)
    (hstate : ch.state ≠ .assembling) :
    ({ ch with readOutstanding := false, deferred := false } : Channel).Sound := by
  cases hs : ch.state with
  | assembling => exact absurd hs hstate
  | idle =>
    obtain ⟨hstaged, hcurrent, hbuffer, hending, -⟩ := (sound_idle hs).1 h
    exact (sound_idle rfl).2
      ⟨hstaged, hcurrent, hbuffer, hending, rfl⟩
  | halted =>
    obtain ⟨hstaged, hcurrent, hbuffer, hending, -⟩ := (sound_halted hs).1 h
    exact (sound_halted rfl).2
      ⟨hstaged, hcurrent, hbuffer, hending, rfl⟩
  | ready =>
    obtain ⟨seg, hseg⟩ := h.current (by simp [hs]) (by simp [hs])
    obtain ⟨hstaged, hvalid, haccounted, hpointer, hheld, hsize, hretry, hrunning, hending, -⟩ :=
      (sound_ready hs hseg).1 h
    exact (sound_ready (ch := { ch with state := .ready, readOutstanding := false, deferred := false }) rfl hseg).2
      ⟨hstaged, hvalid, haccounted, hpointer, hheld, hsize, hretry, hrunning, hending, rfl, rfl⟩
  | onBus =>
    obtain ⟨seg, hseg⟩ := h.current (by simp [hs]) (by simp [hs])
    obtain ⟨hstaged, hvalid, haccounted, hpointer, hheld, hsize, hretry, hending, -⟩ := (sound_onBus hs hseg).1 h
    exact (sound_onBus (ch := { ch with state := .onBus, readOutstanding := false, deferred := false }) rfl hseg).2
      ⟨hstaged, hvalid, haccounted, hpointer, hheld, hsize, hretry, hending, rfl, rfl⟩
  | ending =>
    obtain ⟨seg, hseg⟩ := h.current (by simp [hs]) (by simp [hs])
    obtain ⟨hstaged, hvalid, haccounted, hbuffer, hretry, hrunning, -, hreport⟩ := (sound_ending hs hseg).1 h
    exact (sound_ending (ch := { ch with state := .ending, readOutstanding := false, deferred := false }) rfl hseg).2
      ⟨hstaged, hvalid, haccounted, hbuffer, hretry, hrunning, rfl, hreport⟩

namespace State

variable {s : State} {answered : Bool} {c : ChannelNo}

/-- R86, R92: the read in flight that a channel waits for. -/
theorem currentRead_eq_some {r : ReadRequest} {seg : Segment} :
    s.currentRead = some (c, r, seg) ↔
      s.port.inFlight = some (.read c r) ∧ s.port.orphan = false ∧ (s.chan c).readIsStale = false ∧
        (s.chan c).current = some seg := by
  unfold State.currentRead
  split
  next d q hflight horphan =>
    simp only [hflight, horphan, true_and, Option.some.injEq, Access.read.injEq]
    split
    next hstale =>
      refine iff_of_false (by simp) fun ⟨heq, hfresh, _⟩ => ?_
      rw [← heq.1, hstale] at hfresh
      cases hfresh
    next hfresh =>
      rw [Option.map_eq_some_iff]
      constructor
      · rintro ⟨x, hx, heq⟩
        cases heq
        exact ⟨⟨rfl, rfl⟩, by simpa using hfresh, hx⟩
      · rintro ⟨⟨rfl, rfl⟩, _, hseg⟩
        exact ⟨seg, hseg, rfl⟩
  next hnot =>
    refine iff_of_false (by simp) fun ⟨hflight, horphan, _⟩ => hnot c r hflight horphan

/-! ## A completion, from the answer to the arbiter's next choice (R152, R153) -/

/-- R152: the port's answer to a channel's read: from now on that channel has no request with the port, and the others
have those they had. -/
theorem ChannelsFit.read_answered (h : s.ChannelsFit false) {r : ReadRequest} (hflight : s.port.inFlight = some (.read c r))
    (horphan : s.port.orphan = false) : s.OthersFit true c ∧ ∀ q, ¬ s.port.Holds true c q := by
  have hcarries : s.port.Carries c r := ⟨hflight, horphan⟩
  refine ⟨⟨h.port, fun _ => (by rw [hflight]; rfl), fun hfalse => (by cases hfalse), fun d hd => ?_⟩, fun q hq => ?_⟩
  · have hsame : s.port.Holds true d = s.port.Holds false d := by
      funext q
      refine propext (or_congr_right (iff_of_false (fun hq => by cases hq.1) fun hq => hd ?_))
      have hflight' := hflight.symm.trans hq.2.1
      cases hflight'
      rfl
    rw [hsame]
    exact h.fits d
  · rcases hq with hwaits | ⟨hfalse, -⟩
    · exact h.once rfl c q r hwaits hcarries
    · cases hfalse

/-- R152, R156: the port's answer to a write or to an orphan changes no channel's requests. -/
theorem ChannelsFit.other_answered (h : s.ChannelsFit false) (hflight : s.port.inFlight.isSome = true)
    (hnone : ∀ (d : ChannelNo) (q : ReadRequest), ¬ s.port.Carries d q) : s.ChannelsFit true := by
  refine ⟨h.port, fun _ => hflight, fun hfalse => (by cases hfalse), fun d => ?_⟩
  have hsame : s.port.Holds true d = s.port.Holds false d := by
    funext q
    exact propext (or_congr_right (iff_of_false (fun hq => by cases hq.1) fun hq => hnone d q hq.2))
  rw [hsame]
  exact h.fits d

/-- R153: the completion has been dealt with, and the arbiter chooses. -/
theorem ChannelsFit.finishAccess (h : s.ChannelsFit true) : s.finishAccess.ChannelsFit false := by
  refine ⟨MemPort.finish_sound _, fun hfalse => (by cases hfalse), fun _ => MemPort.finish_once _, fun d => ?_⟩
  have hsame : s.port.finish.Holds false d = s.port.Holds true d := by
    funext q
    exact propext ((MemPort.holds_finish s.port d q).trans
      (or_iff_left fun hq => by cases hq.1).symm)
  show (s.chan d).Fits (s.port.finish.Holds false d) s.pace[d]
  rw [hsame]
  exact h.fits d

/-! ## Segments on their way (R85 to R92, R98 to R111) -/

/-- R85, R86: a frame taken leaves the segment's bytes accounted for. -/
theorem readBytes_accounted {seg : Segment} {buffer : List HeldFrame} {f : HeldFrame} (haccounted : seg.Accounted buffer)
    (hpointer : seg.PointerSound) (hfits : f.payload.length ≤ seg.unread) :
    (seg.readBytes f.payload.length).Accounted (buffer ++ [f]) ∧ (seg.readBytes f.payload.length).PointerSound := by
  obtain ⟨hbytes, hheld⟩ := haccounted
  unfold Segment.PointerSound at hpointer ⊢
  unfold Segment.Accounted
  rw [bufferBytes_append]
  simp only [Segment.readBytes]
  omega

/-- R85 to R87: the channel takes the frame of the read answered. -/
theorem OthersFit.takeFrame (h : s.OthersFit answered c) (hfree : ∀ q, ¬ s.port.Holds answered c q) {seg : Segment}
    (hsound : (s.chan c).Sound) (hstate : (s.chan c).state = .assembling) (hdeferred : (s.chan c).deferred = false)
    (hseg : (s.chan c).current = some seg) {f : HeldFrame} (hcount : f.payload.length ≤ seg.unread)
    (hlast : f.last = decide (seg.unread - f.payload.length = 0)) :
    (s.takeFrame c seg f).ChannelsFit answered := by
  obtain ⟨hstaged, hvalid, haccounted, hpointer, hunread, hroom, hretry, hrunning, hending, -⟩ :=
    (Channel.sound_assembling hstate hseg).1 hsound
  obtain ⟨haccounted', hpointer'⟩ := readBytes_accounted haccounted hpointer hcount
  have hnone : (false = true) ↔ ∃ q, s.port.Holds answered c q :=
    iff_of_false Bool.false_ne_true fun ⟨q, hq⟩ => hfree q hq
  have hlength : ((s.chan c).buffer ++ [f]).length = (s.chan c).buffer.length + 1 := List.length_append
  unfold State.takeFrame
  dsimp only
  split
  next =>
    refine h.setChan_fits (Channel.Fits.of_not_assembling ?_ hnone (by simp))
    refine (Channel.sound_ready (seg := seg.readBytes f.payload.length) rfl rfl).2
      ⟨hstaged, hvalid, haccounted', hpointer', by simp, ?_, ?_, hrunning, hending, hdeferred, rfl⟩
    · show ((s.chan c).buffer ++ [f]).length ≤ seg.record.tenureSize
      omega
    · show seg.retry < Config.retryLimit
      rw [hretry]
      decide
  next hmore =>
    rw [not_or, hlast] at hmore
    have hleft : seg.unread - f.payload.length ≠ 0 := by simpa using hmore.2
    refine (h.setChan _).readPoint (seg := seg.readBytes f.payload.length) ?_ ?_
    · rw [chan_setChan_same]
      exact
        { staged := hstaged, state := hstate, current := rfl, valid := hvalid, accounted := haccounted'
          pointer := hpointer', unread := Nat.pos_of_ne_zero hleft, room := Nat.lt_of_not_le hmore.1, retry := hretry
          running := hrunning, ending := hending, deferred := hdeferred, stale := fun hread => by cases hread }
    · rw [chan_setChan_same]
      exact hnone

/-- R92: the channel drops a stale answer, and takes its deferred read point if it has one. -/
theorem OthersFit.dropStale (h : s.OthersFit answered c) (hfree : ∀ q, ¬ s.port.Holds answered c q)
    (hsound : (s.chan c).Sound) (hstale : (s.chan c).readIsStale = true) : (s.dropStale c).ChannelsFit answered := by
  have hnone : (false = true) ↔ ∃ q, s.port.Holds answered c q :=
    iff_of_false Bool.false_ne_true fun ⟨q, hq⟩ => hfree q hq
  unfold State.dropStale
  dsimp only
  split
  next hdeferred =>
    obtain ⟨hstate, hempty⟩ := hsound.of_deferred hdeferred
    obtain ⟨seg, hseg⟩ := hsound.current (by simp [hstate]) (by simp [hstate])
    obtain ⟨hstaged, hvalid, haccounted, hpointer, hunread, hroom, hretry, hrunning, hending, -⟩ :=
      (Channel.sound_assembling hstate hseg).1 hsound
    refine (h.setChan _).readPoint (seg := seg) ?_ ?_
    · rw [chan_setChan_same]
      exact
        { staged := hstaged, state := hstate, current := hseg, valid := hvalid, accounted := haccounted
          pointer := hpointer, unread := hunread, room := hroom, retry := hretry, running := hrunning
          ending := hending, deferred := rfl, stale := fun hread => by cases hread }
    · rw [chan_setChan_same]
      exact hnone
  next hdeferred =>
    have hdeferred : (s.chan c).deferred = false := by simpa using hdeferred
    have hstate : (s.chan c).state ≠ .assembling := by
      simpa [Channel.readIsStale, hdeferred] using hstale
    refine h.setChan_fits (Channel.Fits.of_not_assembling ?_ hnone hstate)
    exact hsound.dropRead hstate

/-- R68: a segment that can end, in each state that has one under way. -/
theorem canEnd_of_assembling {ch : Channel} {seg : Segment} (hsound : ch.Sound) (hstate : ch.state = .assembling)
    (hseg : ch.current = some seg) : seg.CanEnd := by
  obtain ⟨-, hvalid, haccounted, -, -, -, hretry, -⟩ := (Channel.sound_assembling hstate hseg).1 hsound
  exact ⟨hvalid, haccounted.1, hretry ▸ Nat.zero_le _⟩

theorem canEnd_of_ready {ch : Channel} {seg : Segment} (hsound : ch.Sound) (hstate : ch.state = .ready)
    (hseg : ch.current = some seg) : seg.CanEnd := by
  obtain ⟨-, hvalid, haccounted, -, -, -, hretry, -⟩ := (Channel.sound_ready hstate hseg).1 hsound
  exact ⟨hvalid, haccounted.1, Nat.le_of_lt hretry⟩

/-- The channel ends the segment it has under way. -/
theorem ChannelsFit.endSegment (h : s.ChannelsFit answered) {seg : Segment} (status : SegmentStatus) (hseg : seg.CanEnd) :
    (s.endSegment c seg status).ChannelsFit answered :=
  (h.others c).endSegment status (h.fits c).staged hseg (h.fits c).outstanding

/-- R98: the ON_BUS channel takes its tenure's outcome. -/
theorem ChannelsFit.channelOutcome (h : s.ChannelsFit answered) (c : ChannelNo) (o : TenureOutcome) :
    (s.channelOutcome c o).ChannelsFit answered := by
  unfold State.channelOutcome
  split
  next seg hstate hseg =>
    obtain ⟨hstaged, hvalid, haccounted, hpointer, hheld, hsize, hretry, hending, hdeferred, hread⟩ :=
      (Channel.sound_onBus hstate hseg).1 (h.fits c).sound
    have hbytes := haccounted.1
    have hretryAt : (s.retryAtSender c seg).ChannelsFit answered := by
      unfold State.retryAtSender
      dsimp only
      split
      · exact h.endSegment _ ⟨hvalid, hbytes, hretry⟩
      · split
        · exact h.endSegment _ ⟨hvalid, hbytes, hretry⟩
        next hmore hrunning =>
          refine (h.others c).setChan_fits (Channel.Fits.of_not_assembling ?_ (h.fits c).outstanding (by simp))
          exact (Channel.sound_ready (seg := { seg with retry := seg.retry + 1 }) rfl rfl).2
            ⟨hstaged, hvalid, haccounted, hpointer, hheld, hsize, Nat.lt_of_not_le hmore, by simpa using hrunning, hending,
              hdeferred, hread⟩
    cases o with
    | commit =>
      have hcommitted : seg.committed + seg.held + 0 + seg.unread = seg.record.length := hbytes
      show (s.commitAtSender c seg).ChannelsFit answered
      unfold State.commitAtSender
      dsimp only
      split
      · exact h.endSegment _ ⟨hvalid, hcommitted, Nat.zero_le _⟩
      · split
        · exact h.endSegment _ ⟨hvalid, hcommitted, Nat.zero_le _⟩
        next hleft hrunning =>
          refine ((h.others c).setChan _).readPoint
            (seg := { seg with committed := seg.committed + seg.held, held := 0, retry := 0 }) ?_ ?_
          · rw [chan_setChan_same]
            exact
              { staged := hstaged, state := rfl, current := rfl, valid := hvalid, accounted := ⟨hcommitted, rfl⟩
                pointer := hpointer.trans (Nat.add_assoc _ _ _), unread := Nat.pos_of_ne_zero hleft
                room := ((SegmentRecord.valid_iff _).1 hvalid).2.2.1, retry := rfl
                running := by simpa using hrunning, ending := hending, deferred := hdeferred
                stale := fun _ => rfl }
          · rw [chan_setChan_same]
            exact (h.fits c).outstanding
    | retry => exact hretryAt
    | aborted => exact hretryAt
    | refuse => exact h.endSegment _ ⟨hvalid, hbytes, Nat.le_of_lt hretry⟩
    | unclaimed => exact h.endSegment _ ⟨hvalid, hbytes, Nat.le_of_lt hretry⟩
  · exact h

/-- R106: the ON_BUS channel takes an echo withdrawal. -/
theorem ChannelsFit.channelWithdrawal (h : s.ChannelsFit answered) (c : ChannelNo) :
    (s.channelWithdrawal c).ChannelsFit answered := by
  unfold State.channelWithdrawal
  split
  next seg hstate hseg =>
    obtain ⟨hstaged, hvalid, haccounted, hpointer, hheld, hsize, hretry, hending, hdeferred, hread⟩ :=
      (Channel.sound_onBus hstate hseg).1 (h.fits c).sound
    split
    · exact h.endSegment _ ⟨hvalid, haccounted.1, Nat.le_of_lt hretry⟩
    next hrunning =>
      refine (h.others c).setChan_fits (Channel.Fits.of_not_assembling ?_ (h.fits c).outstanding (by simp))
      exact (Channel.sound_ready (ch := { s.chan c with state := .ready }) rfl hseg).2
        ⟨hstaged, hvalid, haccounted, hpointer, hheld, hsize, hretry, by simpa using hrunning, hending, hdeferred, hread⟩
  · exact h

theorem ChannelsFit.senderOutcome (h : s.ChannelsFit answered) (o : TenureOutcome) :
    (s.senderOutcome o).ChannelsFit answered := by
  unfold State.senderOutcome
  split
  · exact h.channelOutcome _ o
  all_goals exact h

/-! ## The landing unit at the port -/

/-- R140, R150: the landing writer's request changes no channel's. -/
theorem ChannelsFit.requestWrite (h : s.ChannelsFit answered) (w : WriteRequest) :
    (s.setPort (s.port.requestWrite w)).ChannelsFit answered := by
  refine ⟨MemPort.requestWrite_sound h.port w, fun ha => ?_, fun ha => MemPort.requestWrite_once h.port (h.once ha) w,
    fun d => ?_⟩
  · rw [setPort_port, MemPort.requestWrite_of_busy (h.busy ha)]
    exact h.busy ha
  · have hsame : (s.port.requestWrite w).Holds answered d = s.port.Holds answered d := by
      funext q
      exact propext (MemPort.holds_requestWrite h.port w answered d q)
    show (s.chan d).Fits ((s.port.requestWrite w).Holds answered d) s.pace[d]
    rw [hsame]
    exact h.fits d

theorem ChannelsFit.writerAct (h : s.ChannelsFit answered) : s.writerAct.ChannelsFit answered := by
  unfold State.writerAct
  repeat' split
  · refine ChannelsFit.requestWrite ?_ _
    exact h.of_eq rfl rfl rfl
  · exact h
  · exact h

theorem ChannelsFit.landingOutcome (h : s.ChannelsFit answered) (o : TenureOutcome) :
    (s.landingOutcome o).ChannelsFit answered := by
  have hdrop : s.landingDrop.ChannelsFit answered := by
    obtain ⟨l, log, heq⟩ := landingDrop_shape s
    rw [heq]
    exact h.of_eq rfl rfl rfl
  cases o with
  | commit =>
    show s.landingCommit.ChannelsFit answered
    unfold State.landingCommit
    dsimp only
    split
    · exact ChannelsFit.writerAct (h.of_eq rfl rfl rfl)
    · exact ChannelsFit.writerAct (h.of_eq rfl rfl rfl)
  | retry | refuse | unclaimed | aborted => exact hdrop

/-- R20: the tenure end. -/
theorem ChannelsFit.tenureEnd (h : s.ChannelsFit answered) (o : TenureOutcome) : (s.tenureEnd o).ChannelsFit answered := by
  have hcounted : s.rotate.countTenure.ChannelsFit answered := h.of_eq rfl rfl rfl
  have hdrawn (n : Nat) : (s.rotate.countTenure.setChoices n).ChannelsFit answered := hcounted.of_eq rfl rfl rfl
  have htaken : (s.rotate.countTenure.takeOutcome o).ChannelsFit answered := by
    unfold State.takeOutcome
    dsimp only [State.draw]
    repeat' split
    · exact ((hdrawn _).senderOutcome o).landingOutcome o
    · exact ((hdrawn _).landingOutcome o).senderOutcome o
    · exact (hcounted.senderOutcome o).landingOutcome o
  exact htaken.of_eq rfl rfl rfl

end State

end Sys2Proof.Machine

namespace Sys2Proof.Machine

open Answered

/-! ## Every command keeps the channels sound (R84, R88, R89, R92, R107, R110, R150, R153) -/

/-- Figure 10-10: the record that the command words of a PUSH give, `dest` being the destination they name. -/
def pushedRecord (words : Vector Word 4) (dest : Destination) : SegmentRecord :=
  { source := words[0]
    length := words[1].toNat
    dest := dest
    window := Fin.ofNat 16 (getField words[2] 8 4)
    offset := if words[3].getLsbD 23 then some (getField words[3] 0 20) else none
    tenureSize := getField words[2] 12 4
    pacing := if words[3].getLsbD 20 then .paced else .free
    repeats := words[3].getLsbD 21
    notify := words[3].getLsbD 22
    tag := BitVec.ofNat 16 (getField words[2] 16 16) }

/-- R63: what PUSH accepts: a channel, a destination, and a valid record of the words. -/
theorem pushFields_eq_some {words : Vector Word 4} {c : ChannelNo} {r : SegmentRecord} :
    pushFields words = some (c, r) ↔
      c.val = getField words[3] 24 8 ∧ ∃ dest, destOfCode (getField words[2] 0 5) = some dest ∧
        r = pushedRecord words dest ∧ r.valid = true := by
  unfold pushFields
  dsimp only
  split
  next hc =>
    cases hdest : destOfCode (getField words[2] 0 5) with
    | none => simp
    | some dest =>
      show (if (pushedRecord words dest).valid = true then
        some ((⟨getField words[3] 24 8, hc⟩ : ChannelNo), pushedRecord words dest) else none) = _ ↔ _
      split
      next hvalid =>
        constructor
        · intro h
          cases h
          exact ⟨rfl, dest, rfl, rfl, hvalid⟩
        · rintro ⟨hchannel, _, ⟨⟩, rfl, _⟩
          exact congrArg (fun c => some (c, pushedRecord words dest)) (Fin.ext hchannel.symm)
      next hbad =>
        refine iff_of_false (by simp) ?_
        rintro ⟨_, _, ⟨⟩, rfl, hvalid⟩
        exact hbad hvalid
  next hc =>
    refine iff_of_false (by simp) fun h => hc ?_
    rw [← h.1]
    exact c.isLt

/-- R63: a record that PUSH accepts is valid. -/
theorem pushFields_valid {words : Vector Word 4} {c : ChannelNo} {r : SegmentRecord}
    (h : pushFields words = some (c, r)) : r.valid = true := by
  obtain ⟨_, _, _, _, hvalid⟩ := pushFields_eq_some.1 h
  exact hvalid

namespace State.ChannelsFit

variable {s : State} (h : s.ChannelsFit false)

include h

/-! ### Operations that touch neither channels nor port -/

theorem setBus (b : BusController) : (s.setBus b).ChannelsFit false := h.of_eq rfl rfl rfl

theorem setCmd (x : CommandPort) : (s.setCmd x).ChannelsFit false := h.of_eq rfl rfl rfl

theorem activity : s.activity.ChannelsFit false := h.of_eq rfl rfl rfl

theorem note (n : NoteReason) : (s.note n).ChannelsFit false := by
  obtain ⟨m, l, heq⟩ := note_shape s n
  rw [heq]
  exact h.of_eq rfl rfl rfl

theorem enterWithNote (l : LinkState) (r : Reason) : (s.enterWithNote l r).ChannelsFit false :=
  note (s := s.enter l (some r)) (h.of_eq rfl rfl rfl) _

theorem abandonCensus : s.abandonCensus.ChannelsFit false := by
  obtain ⟨m, heq⟩ := censusAbandoned_shape s
  unfold State.abandonCensus
  rw [heq]
  exact h.of_eq rfl rfl rfl

theorem followSlot (k : Nat) : (s.followSlot k).ChannelsFit false := by
  unfold State.followSlot
  split
  · exact h
  next r _ =>
    obtain ⟨o, m, l, heq⟩ := endListSlots_shape s r
    dsimp only
    rw [heq]
    repeat' split
    all_goals exact h.of_eq rfl rfl rfl

theorem landFrame (sender : StationId) (f : WireFrame) : (s.landFrame sender f).ChannelsFit false := by
  unfold State.landFrame
  split
  · exact h
  · dsimp only
    split <;> exact h.of_eq rfl rfl rfl

theorem takeHeader (hd : Header) : (s.takeHeader hd).ChannelsFit false := by
  unfold State.takeHeader
  dsimp only
  split <;> exact h.of_eq rfl rfl rfl

theorem takeFrameArrival (hd : Header) (f : WireFrame) : (s.takeFrameArrival hd f).ChannelsFit false := by
  unfold State.takeFrameArrival
  dsimp only
  repeat' split
  · exact (h.setBus _).landFrame _ f
  · exact h.of_eq rfl rfl rfl
  · exact h.of_eq rfl rfl rfl

theorem closeCommand (w : WindowNo) : (s.closeCommand w).1.ChannelsFit false := by
  have hset (x : Window) : (s.setWin w x).ChannelsFit false := h.of_eq rfl rfl rfl
  have hdrain (x : Window) : (((s.setWin w x).drainTest w).offer (.window w)).ChannelsFit false := by
    obtain ⟨y, heq⟩ := drainTest_shape (s.setWin w x) w
    rw [heq]
    refine ChannelsFit.offer ?_ _
    exact (hset x).of_eq rfl rfl rfl
  unfold State.closeCommand
  dsimp only
  split
  · exact hdrain _
  · exact hdrain _
  · refine ChannelsFit.offer ?_ _
    exact h.of_eq rfl rfl rfl
  · exact h
  · exact h

/-! ### Operations on channels -/

theorem sendTenure : s.sendTenure.ChannelsFit false := by
  unfold State.sendTenure
  split
  next c hpick =>
    have hstate : (s.chan c).state = .ready := by
      simpa [State.isReady] using List.find?_some hpick
    obtain ⟨seg, hseg⟩ := (h.fits c).sound.current (by simp [hstate]) (by simp [hstate])
    obtain ⟨hstaged, hvalid, haccounted, hpointer, hheld, hsize, hretry, -, hending, hdeferred, hread⟩ :=
      (Channel.sound_ready hstate hseg).1 (h.fits c).sound
    have honBus : (s.setChan c { s.chan c with state := .onBus }).ChannelsFit false := by
      refine (h.others c).setChan_fits (Channel.Fits.of_not_assembling ?_ (h.fits c).outstanding (by simp))
      exact (Channel.sound_onBus (ch := { s.chan c with state := .onBus }) rfl hseg).2
        ⟨hstaged, hvalid, haccounted, hpointer, hheld, hsize, hretry, hending, hdeferred, hread⟩
    exact honBus.of_eq rfl rfl rfl
  next => exact h.setBus _

theorem takeWin (tenureWon : Bool) (won : Option Claim) : (s.takeWin tenureWon won).ChannelsFit false := by
  unfold State.takeWin
  split
  · exact h.sendTenure
  · exact h.setBus _
  · exact h.setBus _

theorem reportWithdrawal (c : ChannelNo) : (s.reportWithdrawal c).ChannelsFit false := by
  have hcollision {t : State} (ht : t.ChannelsFit false) : t.tenureCollision.ChannelsFit false := by
    obtain ⟨m, l, heq⟩ := tenureCollision_shape t
    rw [heq]
    exact ht.of_eq rfl rfl rfl
  have hdrawn (n : Nat) : (s.setChoices n).ChannelsFit false := h.of_eq rfl rfl rfl
  unfold State.reportWithdrawal
  dsimp only [State.draw]
  repeat' split
  · exact hcollision ((hdrawn _).channelWithdrawal c)
  · exact (hcollision (hdrawn _)).channelWithdrawal c
  · exact hcollision (h.channelWithdrawal c)

theorem startMark : s.endedByStartMark.ChannelsFit false := by
  unfold State.endedByStartMark
  split
  · exact h.tenureEnd _
  · exact h.abandonCensus
  · exact h
  · exact h

theorem push : s.push.1.ChannelsFit false := by
  unfold State.push
  split
  · exact h
  next c r hfields =>
    have hfits := h.fits c
    have hvalid := pushFields_valid hfields
    dsimp only
    split
    next hidle =>
      obtain ⟨hstaged, -, -, -, hdeferred⟩ := (Channel.sound_idle hidle).1 hfits.sound
      exact (h.others c).startSegment hvalid hstaged hdeferred hfits.outstanding
    next =>
      split
      · refine (h.others c).setChan_fits (hfits.setStaged _ fun q hq => ?_)
        rcases List.mem_append.1 hq with hq | hq
        · exact hfits.staged q hq
        · exact List.mem_singleton.1 hq ▸ hvalid
      · exact h

theorem stopChannel (c : ChannelNo) : (s.stopChannel c).1.ChannelsFit false := by
  have hfits := h.fits c
  unfold State.stopChannel
  split
  next seg hstate hseg => exact h.endSegment _ (canEnd_of_assembling hfits.sound hstate hseg)
  next seg hstate hseg => exact h.endSegment _ (canEnd_of_ready hfits.sound hstate hseg)
  next seg hstate hseg =>
    refine (h.others c).setChan_fits (Channel.Fits.of_not_assembling ?_ hfits.outstanding ?_)
    · exact (Channel.sound_onBus (ch := { s.chan c with current := some { seg with stopPending := true } }) hstate rfl).2
        ((Channel.sound_onBus hstate hseg).1 hfits.sound)
    · show (s.chan c).state ≠ .assembling
      rw [hstate]
      simp
  · exact h

theorem resumeChannel (c : ChannelNo) : (s.resumeChannel c).1.ChannelsFit false := by
  have hfits := h.fits c
  unfold State.resumeChannel
  split
  next hhalted =>
    obtain ⟨hstaged, hempty⟩ := (Channel.sound_halted hhalted).1 hfits.sound
    split
    next r rest hqueue =>
      rw [hqueue] at hstaged
      exact (h.others c).startSegment (hstaged r List.mem_cons_self) (fun q hq => hstaged q (List.mem_cons_of_mem _ hq))
        hempty.2.2.2 hfits.outstanding
    next =>
      refine (h.others c).setChan_fits (Channel.Fits.of_not_assembling ?_ hfits.outstanding (by simp))
      exact (Channel.sound_idle rfl).2 ⟨hstaged, hempty⟩
  next => exact h

theorem flushChannel (c : ChannelNo) : (s.flushChannel c).1.ChannelsFit false := by
  unfold State.flushChannel
  dsimp only
  split
  · exact h
  · refine ChannelsFit.offer ?_ _
    exact (h.others c).setChan_fits ((h.fits c).setStaged _ fun q hq => by cases hq)

theorem popRecord : s.popRecord.ChannelsFit false := by
  unfold State.popRecord
  split
  · exact h
  next rest _ =>
    have hpopped : (s.setLog { s.log with records := rest }).ChannelsFit false := h.of_eq rfl rfl rfl
    unfold State.grantFreed
    repeat' split
    · exact hpopped.grant _
    · exact hpopped
    · exact hpopped

/-- R88 to R90: a change of a PACE input. -/
theorem execPaceActive (c : ChannelNo) (level : Bool) :
    Leads (fun t => t.ChannelsFit false) (Machine.execPaceActive c level s) := by
  have hlevel (d : ChannelNo) : (s.setPace (s.pace.set c level)).pace[d] = if c = d then level else s.pace[d] := by
    show (s.pace.set c level)[d.val] = _
    rw [Vector.getElem_set]
    exact ite_congr_of_iff Fin.ext_iff.symm rfl rfl
  have hothers : (s.setPace (s.pace.set c level)).OthersFit false c := by
    refine ⟨h.port, h.busy, h.once, fun d hd => ?_⟩
    rw [hlevel, if_neg hd.symm]
    exact h.fits d
  have hfits := h.fits c
  unfold Machine.execPaceActive
  dsimp only
  split
  next hwaits =>
    obtain ⟨rfl, hwaits⟩ := Bool.and_eq_true_iff.1 hwaits
    rw [chan_setPace] at hwaits
    obtain ⟨hstate, hread⟩ : (s.chan c).state = .assembling ∧ (s.chan c).readOutstanding = false := by
      have hboth := (Bool.and_eq_true_iff.1 hwaits).1
      simpa using hboth
    obtain ⟨seg, hseg⟩ := hfits.sound.current (by simp [hstate]) (by simp [hstate])
    obtain ⟨hstaged, hvalid, haccounted, hpointer, hunread, hroom, hretry, hrunning, hending, hdeferred⟩ :=
      (Channel.sound_assembling hstate hseg).1 hfits.sound
    have hfresh : (s.chan c).deferred = false := by
      rw [Bool.eq_false_iff]
      intro htrue
      have hboth := (hdeferred htrue).1
      rw [hread] at hboth
      cases hboth
    refine hothers.requestRead (seg := seg) ?_ fun r hr => ?_
    · exact
        { staged := hstaged, state := hstate, current := hseg, valid := hvalid, accounted := haccounted
          pointer := hpointer, unread := hunread, room := hroom, retry := hretry, running := hrunning
          ending := hending, deferred := hfresh
          stale := fun htrue => by rw [show (s.chan c).readOutstanding = true from htrue] at hread; cases hread }
    · have hsome := hfits.outstanding.2 ⟨r, hr⟩
      rw [hread] at hsome
      cases hsome
  next hnot =>
    refine hothers.channelsFit
      { sound := hfits.sound, outstanding := hfits.outstanding, request := hfits.request, pacing := ?_ }
    intro hstate hread
    obtain ⟨-, hempty, hwaits⟩ := hfits.pacing hstate hread
    refine ⟨?_, hempty, hwaits⟩
    rw [hlevel, if_pos rfl, Bool.eq_false_iff]
    intro htrue
    exact hnot (by rw [htrue, chan_setPace, hwaits]; rfl)

/-! ### Completions -/

theorem execFrameReadCompletion (words : List Word) :
    Leads (fun t => t.ChannelsFit false) (Machine.execFrameReadCompletion words s) := by
  unfold Machine.execFrameReadCompletion
  repeat' split
  next c r seg hcurrent hwords =>
    obtain ⟨hflight, horphan, hfresh, hseg⟩ := currentRead_eq_some.1 hcurrent
    obtain ⟨hothers, hfree⟩ := h.read_answered hflight horphan
    obtain ⟨hstate, hdeferred⟩ := Channel.not_stale_iff.1 hfresh
    have hrequest : r = requestOf seg := (h.fits c).request r (.inr ⟨rfl, hflight, horphan⟩) hfresh seg hseg
    have hcount : (Machine.readBytes r.addr r.count words).length ≤ seg.unread := by
      rw [readBytes_length hwords, hrequest]
      exact Nat.min_le_right _ _
    exact (hothers.takeFrame hfree (h.fits c).sound hstate hdeferred hseg hcount rfl).finishAccess
  all_goals trivial

theorem execReadFault : Leads (fun t => t.ChannelsFit false) (Machine.execReadFault s) := by
  unfold Machine.execReadFault
  split
  next c r seg hcurrent =>
    obtain ⟨hflight, horphan, hfresh, hseg⟩ := currentRead_eq_some.1 hcurrent
    obtain ⟨hothers, hfree⟩ := h.read_answered hflight horphan
    refine (OthersFit.endSegment (hothers.setChan _) .sourceFault ?_ ?_ ?_).finishAccess
    · rw [chan_setChan_same]
      exact (h.fits c).staged
    · exact canEnd_of_assembling (h.fits c).sound (Channel.not_stale_iff.1 hfresh).1 hseg
    · rw [chan_setChan_same]
      exact iff_of_false Bool.false_ne_true fun ⟨q, hq⟩ => hfree q hq
  · trivial

theorem execStaleReadCompletion : Leads (fun t => t.ChannelsFit false) (Machine.execStaleReadCompletion s) := by
  unfold Machine.execStaleReadCompletion
  repeat' split
  next c _ hflight horphan hstale =>
    obtain ⟨hothers, hfree⟩ := h.read_answered hflight horphan
    exact (hothers.dropStale hfree (h.fits c).sound hstale).finishAccess
  all_goals trivial

theorem execOrphanCompletion : Leads (fun t => t.ChannelsFit false) (Machine.execOrphanCompletion s) := by
  unfold Machine.execOrphanCompletion
  split
  next hboth =>
    obtain ⟨hflight, horphan⟩ := Bool.and_eq_true_iff.1 hboth
    refine (h.other_answered hflight fun d q hcarries => ?_).finishAccess
    rw [hcarries.2] at horphan
    cases horphan
  · trivial

end State.ChannelsFit

end Sys2Proof.Machine

namespace Sys2Proof.Machine

open Answered

namespace State

variable {s : State}

/-- R137, R156: the landing write in flight, and its frame at the head of the queue. -/
theorem currentWrite_eq_some {w : WriteRequest} {f : QueuedFrame} :
    s.currentWrite = some (w, f) ↔
      s.port.inFlight = some (.write w) ∧ s.port.orphan = false ∧ (∃ rest, s.landing.queue = f :: rest) ∧
        s.landing.writer ≠ .idle := by
  unfold State.currentWrite
  split
  next v g rest hflight horphan hqueue =>
    simp only [hflight, horphan, hqueue, true_and, Option.some.injEq, Access.write.injEq, List.cons.injEq]
    split
    next hidle => exact iff_of_false (by simp) fun ⟨_, _, hbusy⟩ => hbusy hidle
    next hbusy =>
      constructor
      · rintro ⟨⟩
        exact ⟨rfl, ⟨rest, rfl, rfl⟩, hbusy⟩
      · rintro ⟨rfl, ⟨_, rfl, _⟩, _⟩
        rfl
  next hnot =>
    refine iff_of_false (by simp) ?_
    rintro ⟨hflight, horphan, ⟨rest, hqueue⟩, _⟩
    exact hnot w f rest hflight horphan hqueue

namespace ChannelsFit

variable (h : s.ChannelsFit false)

include h

/-- R152: while the answer to a landing write is dealt with, no channel's request is touched. -/
theorem write_answered {w : WriteRequest} {f : QueuedFrame} (hcurrent : s.currentWrite = some (w, f)) :
    s.ChannelsFit true := by
  obtain ⟨hflight, -⟩ := currentWrite_eq_some.1 hcurrent
  refine h.other_answered (by rw [hflight]; rfl) fun d q hcarries => ?_
  have heq := hflight.symm.trans hcarries.1
  cases heq

theorem execLandingWriteCompletion : Leads (fun t => t.ChannelsFit false) (Machine.execLandingWriteCompletion s) := by
  unfold Machine.execLandingWriteCompletion
  repeat' split
  next w f hcurrent _ =>
    have hanswered := h.write_answered hcurrent
    obtain ⟨x, hx⟩ := noteTest_shape (s.frameWritten f) f
    obtain ⟨y, hy⟩ := drainTest_shape ((s.frameWritten f).noteTest f) f.window
    have hevents : (((s.frameWritten f).noteTest f).drainTest f.window).ChannelsFit true := by
      rw [hy, hx]
      exact hanswered.of_eq rfl rfl rfl
    exact (hevents.offer _).writerAct.finishAccess
  all_goals trivial

theorem execSplitFirstPartCompletion :
    Leads (fun t => t.ChannelsFit false) (Machine.execSplitFirstPartCompletion s) := by
  unfold Machine.execSplitFirstPartCompletion
  split
  next w f hcurrent =>
    split
    · trivial
    · refine ChannelsFit.finishAccess (ChannelsFit.requestWrite ?_ _)
      exact (h.write_answered hcurrent).of_eq rfl rfl rfl
  · trivial

theorem execWriteFault : Leads (fun t => t.ChannelsFit false) (Machine.execWriteFault s) := by
  unfold Machine.execWriteFault
  split
  next w f hcurrent =>
    have hfaulted : (s.faultWindow f.window (BitVec.ofNat 32 w.addr)).ChannelsFit true := by
      rw [faultWindow_eq]
      refine ChannelsFit.offer ?_ _
      exact (h.write_answered hcurrent).of_eq rfl rfl rfl
    exact hfaulted.writerAct.finishAccess
  · trivial

end ChannelsFit

/-- R82, R97, R155, R156: channels and port after a reset, with an orphan in flight or nothing. -/
theorem channelsFit_of_reset {t : State} (hchannels : t.channels = Vector.replicate 4 Channel.reset)
    (hreads : t.port.reads = Vector.replicate 4 none) (hwrite : t.port.write = none)
    (horphan : t.port.orphan = t.port.inFlight.isSome) : t.ChannelsFit false := by
  have hchan (c : ChannelNo) : t.chan c = Channel.reset := by
    rw [State.chan, hchannels]
    exact Vector.getElem_replicate _
  have hread (c : ChannelNo) : t.port.reads[c] = none := by
    rw [hreads]
    exact Vector.getElem_replicate _
  have hcarries (c : ChannelNo) (r : ReadRequest) : ¬ t.port.Carries c r := by
    rintro ⟨hflight, hno⟩
    rw [hno, hflight] at horphan
    cases horphan
  have hholds (c : ChannelNo) (r : ReadRequest) : ¬ t.port.Holds false c r := by
    rintro (hwaits | ⟨-, hflies⟩)
    · rw [hread] at hwaits
      cases hwaits
    · exact hcarries c r hflies
  refine ⟨⟨fun _ => ⟨hwrite, hread⟩, fun htrue => horphan ▸ htrue⟩, fun hfalse => (by cases hfalse),
    fun _ c r r' _ => hcarries c r', fun c => ?_⟩
  rw [hchan]
  refine Channel.Fits.of_not_assembling ?_ (iff_of_false Bool.false_ne_true fun ⟨r, hr⟩ => hholds c r hr) (by simp [Channel.reset])
  exact (Channel.sound_idle rfl).2 ⟨fun r hr => (by cases hr), rfl, rfl, rfl, rfl⟩

end State

/-- R165: a host command keeps the channels sound where its owner does. -/
theorem channelsFit_takeCommand {s : State} (code : BitVec 8) {act : State → State × Reply} (h : s.ChannelsFit false)
    (hact : ∀ {u : State}, u.ChannelsFit false → (act u).1.ChannelsFit false) :
    Leads (fun t => t.ChannelsFit false) (s.takeCommand code act) :=
  leads_takeCommand code (fun _ x hu => hu.setCmd x) h fun _ hu => hact hu

section

variable {s : State} (h : s.ChannelsFit false)

include h

/-! ### The rows of the bus and the host -/

theorem execStartMark_channelsFit : Leads (fun t => t.ChannelsFit false) (execStartMark s) := by
  unfold execStartMark
  repeat' split
  · exact h
  · exact h.startMark.activity.setBus _
  · exact h.of_eq rfl rfl rfl

theorem execContestLoss_channelsFit : Leads (fun t => t.ChannelsFit false) (execContestLoss s) := by
  unfold execContestLoss
  split
  · exact h.setBus _
  · trivial

theorem execClaimCodeEnd_channelsFit (code : BitVec 5) :
    Leads (fun t => t.ChannelsFit false) (execClaimCodeEnd code s) := by
  unfold execClaimCodeEnd
  by_cases hphase : s.bus.phase = .contest
  · rw [if_pos hphase]
    split
    · exact (h.setBus _).takeWin _ _
    · exact h
  · rw [if_neg hphase]
    split
    · trivial
    · exact h

theorem execContestSilence_channelsFit : Leads (fun t => t.ChannelsFit false) (execContestSilence s) := by
  unfold execContestSilence
  repeat' split
  · exact h.setBus _
  · trivial
  · exact h

theorem execStepInSilence_channelsFit : Leads (fun t => t.ChannelsFit false) (execStepInSilence s) := by
  unfold execStepInSilence
  repeat' split
  · exact h
  · trivial
  · exact h.setBus _

theorem execTenureHeader_channelsFit (w : WireHeader) :
    Leads (fun t => t.ChannelsFit false) (execTenureHeader w s) := by
  unfold execTenureHeader
  repeat' split
  · exact h.activity.takeHeader _
  · exact h.activity.setBus _
  · trivial
  · exact h

theorem execFrame_channelsFit (f : WireFrame) : Leads (fun t => t.ChannelsFit false) (execFrame f s) := by
  unfold execFrame
  repeat' split
  · exact h.activity.takeFrameArrival _ f
  · exact h.activity
  · exact h.activity
  · trivial
  · exact h
  · trivial

theorem execVerdictMark_channelsFit : Leads (fun t => t.ChannelsFit false) (execVerdictMark s) := by
  unfold execVerdictMark
  repeat' split
  · exact h.activity.setBus _
  · trivial
  · exact h

theorem execVerdictSample_channelsFit (lines : Lines) :
    Leads (fun t => t.ChannelsFit false) (execVerdictSample lines s) := by
  unfold execVerdictSample
  repeat' split
  · exact h.tenureEnd _
  · trivial
  · exact h

theorem execTruncation_channelsFit : Leads (fun t => t.ChannelsFit false) (execTruncation s) := by
  unfold execTruncation
  repeat' split
  · exact h.tenureEnd _
  · trivial
  · exact h

theorem execEchoWithdrawal_channelsFit : Leads (fun t => t.ChannelsFit false) (execEchoWithdrawal s) := by
  unfold execEchoWithdrawal
  split
  · exact (h.setBus _).reportWithdrawal _
  · trivial

theorem execEchoMismatchTenure_channelsFit : Leads (fun t => t.ChannelsFit false) (execEchoMismatchTenure s) := by
  unfold execEchoMismatchTenure
  split
  · exact (h.setBus _).channelOutcome _ _
  · trivial

theorem execEchoMismatchCensus_channelsFit : Leads (fun t => t.ChannelsFit false) (execEchoMismatchCensus s) := by
  unfold execEchoMismatchCensus
  split
  · exact h.setBus _
  · obtain ⟨m, l, heq⟩ := State.censusCollision_shape (s.setBus { s.bus with drive := .nothing })
    split
    · rw [leads_next, heq]
      exact h.of_eq rfl rfl rfl
    · trivial
  · trivial

theorem execCensusHeader_channelsFit (w : WireCensusHeader) :
    Leads (fun t => t.ChannelsFit false) (execCensusHeader w s) := by
  unfold execCensusHeader
  repeat' split
  next hd _ =>
    obtain ⟨m, heq⟩ := State.openCensus_shape
      (s.activity.setBus { s.bus with censusHeader := .good, drive := afterHeader s.bus.drive }) hd
    rw [leads_next, heq]
    exact h.of_eq rfl rfl rfl
  · exact h.activity.setBus _
  · trivial
  · exact h

theorem execCensusSlotTime_channelsFit : Leads (fun t => t.ChannelsFit false) (execCensusSlotTime s) := by
  unfold execCensusSlotTime
  repeat' split
  · exact h.setBus _
  · trivial
  · trivial
  · trivial
  · exact h
  · exact h
  · exact h
  · trivial
  · exact h

theorem execSlotMark_channelsFit : Leads (fun t => t.ChannelsFit false) (execSlotMark s) := by
  unfold execSlotMark
  split
  · exact (h.activity.setBus _).followSlot _
  · exact h

theorem execListSlotAnswer_channelsFit (a : WireListAnswer) :
    Leads (fun t => t.ChannelsFit false) (execListSlotAnswer a s) := by
  have htake (r : CensusRecord) : (s.activity.markAnswered.takeListAnswer r a).ChannelsFit false := by
    unfold State.takeListAnswer
    split <;> exact h.of_eq rfl rfl rfl
  unfold execListSlotAnswer
  repeat' split
  · exact h.activity.setBus _
  · exact htake _
  · trivial
  · trivial
  · exact h
  · trivial

theorem execJoinSlotAnswer_channelsFit (a : WireJoinAnswer) :
    Leads (fun t => t.ChannelsFit false) (execJoinSlotAnswer a s) := by
  have htake (r : CensusRecord) (j : Nat) : (s.activity.markAnswered.takeJoinAnswer r j a).ChannelsFit false := by
    unfold State.takeJoinAnswer
    split <;> exact h.of_eq rfl rfl rfl
  unfold execJoinSlotAnswer
  repeat' split
  · exact h.activity.setBus _
  · exact htake _ _
  · trivial
  · trivial
  · exact h

theorem execEndMark_channelsFit : Leads (fun t => t.ChannelsFit false) (execEndMark s) := by
  obtain ⟨o, m, l, heq⟩ := State.censusEnd_shape s.activity
  unfold execEndMark
  split
  · rw [leads_next, heq]
    exact h.of_eq rfl rfl rfl
  · exact h

theorem execCensusAbandonSilence_channelsFit : Leads (fun t => t.ChannelsFit false) (execCensusAbandonSilence s) := by
  unfold execCensusAbandonSilence
  repeat' split
  · exact h.abandonCensus
  · trivial
  · exact h

theorem execIdleTimerExpiry_channelsFit : Leads (fun t => t.ChannelsFit false) (execIdleTimerExpiry s) := by
  unfold execIdleTimerExpiry
  split
  · exact h.of_eq rfl rfl rfl
  · trivial

theorem execFormationTimerExpiry_channelsFit : Leads (fun t => t.ChannelsFit false) (execFormationTimerExpiry s) := by
  unfold execFormationTimerExpiry
  split
  · exact h.of_eq rfl rfl rfl
  · trivial

theorem execResetReleased_channelsFit (pins : StrapPins) :
    Leads (fun t => t.ChannelsFit false) (execResetReleased pins s) := by
  unfold execResetReleased
  split
  · exact h.of_eq rfl rfl rfl
  · trivial

theorem execQueryChannel_channelsFit : Leads (fun t => t.ChannelsFit false) (execQueryChannel s) := by
  unfold execQueryChannel
  exact channelsFit_takeCommand _ h fun hu => State.onChannel_keeps (P := fun t => t.ChannelsFit false) hu fun _ => hu

theorem openCommand_channelsFit : s.openCommand.1.ChannelsFit false := by
  unfold State.openCommand
  repeat' split
  all_goals exact h.of_eq rfl rfl rfl

theorem consumeCommand_channelsFit (w : WindowNo) : (s.consumeCommand w).1.ChannelsFit false := by
  unfold State.consumeCommand
  dsimp only
  repeat' split
  all_goals exact h.of_eq rfl rfl rfl

theorem rearmCommand_channelsFit (w : WindowNo) : (s.rearmCommand w).1.ChannelsFit false := by
  unfold State.rearmCommand
  split <;> exact h.of_eq rfl rfl rfl

theorem leaveCommand_channelsFit : s.leaveCommand.1.ChannelsFit false := by
  unfold State.leaveCommand
  split
  · exact h.of_eq rfl rfl rfl
  · exact h.enterWithNote _ _
  · exact h.enterWithNote _ _
  all_goals exact h

theorem joinCommand_channelsFit : s.joinCommand.1.ChannelsFit false := by
  unfold State.joinCommand
  split <;> exact h.of_eq rfl rfl rfl

theorem execStationReset_channelsFit (pins : StrapPins) :
    Leads (fun t => t.ChannelsFit false) (execStationReset pins s) := by
  have hcleared : ((s.clearBlocks.setPort s.port.stationReset).comeUp pins).ChannelsFit false :=
    State.channelsFit_of_reset rfl rfl rfl rfl
  unfold execStationReset
  split
  · exact h
  · exact hcleared.note _

theorem execUnknownCommand_channelsFit (code : BitVec 8) :
    Leads (fun t => t.ChannelsFit false) (execUnknownCommand code s) := by
  unfold execUnknownCommand
  split
  · trivial
  · exact channelsFit_takeCommand code h id

theorem execPop_channelsFit (enable : Bool) : Leads (fun t => t.ChannelsFit false) (execPop enable s) := by
  unfold execPop
  split
  · exact h
  · exact (h.setCmd _).popRecord

theorem execSetInterruptEnable_channelsFit (enable : Bool) :
    Leads (fun t => t.ChannelsFit false) (execSetInterruptEnable enable s) := by
  unfold execSetInterruptEnable
  split
  · exact h
  · exact h.setCmd _

theorem execRegisterWrite_channelsFit (w : PlainWord) (value : Word) (enables : BitVec 4) :
    Leads (fun t => t.ChannelsFit false) (execRegisterWrite w value enables s) := by
  unfold execRegisterWrite
  repeat' split
  · exact h
  · exact h.setCmd _
  all_goals exact h

/-- Every command keeps the channels sound. -/
theorem exec_channelsFit (i : Instr) : Leads (fun t => t.ChannelsFit false) (exec i s) := by
  cases i with
  | startMark => exact execStartMark_channelsFit h
  | contestLoss => exact execContestLoss_channelsFit h
  | claimCodeEnd code => exact execClaimCodeEnd_channelsFit h code
  | contestSilence => exact execContestSilence_channelsFit h
  | stepInSilence => exact execStepInSilence_channelsFit h
  | tenureHeader w => exact execTenureHeader_channelsFit h w
  | frame f => exact execFrame_channelsFit h f
  | verdictMark => exact execVerdictMark_channelsFit h
  | verdictSample lines => exact execVerdictSample_channelsFit h lines
  | truncation => exact execTruncation_channelsFit h
  | echoWithdrawal => exact execEchoWithdrawal_channelsFit h
  | echoMismatchTenure => exact execEchoMismatchTenure_channelsFit h
  | echoMismatchCensus => exact execEchoMismatchCensus_channelsFit h
  | censusHeader w => exact execCensusHeader_channelsFit h w
  | censusSlotTime => exact execCensusSlotTime_channelsFit h
  | slotMark => exact execSlotMark_channelsFit h
  | listSlotAnswer a => exact execListSlotAnswer_channelsFit h a
  | joinSlotAnswer a => exact execJoinSlotAnswer_channelsFit h a
  | endMark => exact execEndMark_channelsFit h
  | censusAbandonSilence => exact execCensusAbandonSilence_channelsFit h
  | idleTimerExpiry => exact execIdleTimerExpiry_channelsFit h
  | formationTimerExpiry => exact execFormationTimerExpiry_channelsFit h
  | resetAsserted => exact State.channelsFit_of_reset (t := (s.clearBlocks.setPort MemPort.reset).setMembership _) rfl rfl rfl rfl
  | resetReleased pins => exact execResetReleased_channelsFit h pins
  | paceActive c level => exact h.execPaceActive c level
  | frameReadCompletion words => exact h.execFrameReadCompletion words
  | readFault => exact h.execReadFault
  | staleReadCompletion => exact h.execStaleReadCompletion
  | landingWriteCompletion => exact h.execLandingWriteCompletion
  | splitFirstPartCompletion => exact h.execSplitFirstPartCompletion
  | writeFault => exact h.execWriteFault
  | orphanCompletion => exact h.execOrphanCompletion
  | push => exact channelsFit_takeCommand _ h fun hu => hu.push
  | stop =>
    exact channelsFit_takeCommand _ h fun hu => State.onChannel_keeps (P := fun t => t.ChannelsFit false) hu hu.stopChannel
  | resume =>
    exact channelsFit_takeCommand _ h fun hu =>
      State.onChannel_keeps (P := fun t => t.ChannelsFit false) hu hu.resumeChannel
  | flush =>
    exact channelsFit_takeCommand _ h fun hu => State.onChannel_keeps (P := fun t => t.ChannelsFit false) hu hu.flushChannel
  | queryChannel => exact execQueryChannel_channelsFit h
  | openWindow => exact channelsFit_takeCommand _ h openCommand_channelsFit
  | closeWindow =>
    exact channelsFit_takeCommand _ h fun hu => State.onWindow_keeps (P := fun t => t.ChannelsFit false) hu hu.closeCommand
  | consume =>
    exact channelsFit_takeCommand _ h fun hu =>
      State.onWindow_keeps (P := fun t => t.ChannelsFit false) hu (consumeCommand_channelsFit hu)
  | rearm =>
    exact channelsFit_takeCommand _ h fun hu =>
      State.onWindow_keeps (P := fun t => t.ChannelsFit false) hu (rearmCommand_channelsFit hu)
  | queryWindow =>
    exact channelsFit_takeCommand _ h fun hu =>
      State.onWindow_keeps (P := fun t => t.ChannelsFit false) hu fun w => (State.queryWindow_state _ w).symm ▸ hu
  | leave => exact channelsFit_takeCommand _ h leaveCommand_channelsFit
  | join => exact channelsFit_takeCommand _ h joinCommand_channelsFit
  | stationReset pins => exact execStationReset_channelsFit h pins
  | unknownCommand code => exact execUnknownCommand_channelsFit h code
  | pop enable => exact execPop_channelsFit h enable
  | setInterruptEnable enable => exact execSetInterruptEnable_channelsFit h enable
  | registerWrite w value enables => exact execRegisterWrite_channelsFit h w value enables

end

/-- Settles O58: a completion's channel is followed from the answer to the arbiter's choice (`ChannelsFit true`), every
other operation from one sound state to the next. -/
theorem channelsKept : Obligations.ChannelsKept := by
  intro s t h hstep
  have hkept : t.ChannelsFit false :=
    step_keeps (P := fun t => t.ChannelsFit false) (fun _ _ hs => hs.of_eq rfl rfl rfl) (fun i _ hs => exec_channelsFit hs i)
      (State.channelsSound_iff.1 h) hstep
  exact State.channelsSound_iff.2 hkept

end Sys2Proof.Machine

namespace Sys2Proof.Machine

open Answered

/-! ## Bus controller and membership unit (R1, R4, R6, R20, R21, R36, R40, R41, R43, R45) -/

/-- What the bus controller holds belongs to the phase it is in. -/
structure BusController.Sound (b : BusController) : Prop where
  outOfStep : b.inStep = false → b.phase = .silent
  claim : ∀ c, b.drive = .claim c → b.phase = .contest
  tenure : ∀ c, b.drive = .tenure c → b.phase = .tenure
  census : ∀ h part, b.drive = .census h part → b.phase = .census
  noTenure : b.phase ≠ .tenure →
    b.header = .awaited ∧ b.verdict = .closed ∧ b.echoFailed = false ∧ b.destination = false
  noCensus : b.phase ≠ .census → b.answer = none ∧ b.censusHeader = .awaited ∧ b.slotMarks = 0

/-- Timers, wants and census record fit the link state. -/
structure Membership.Sound (m : Membership) : Prop where
  idle : m.idleTimer = .running ∨ m.idleWant = true → m.link = .member ∨ m.link = .leaving
  formation : m.formationTimer = .running ∨ m.formationWant = true → m.link = .listening
  joining : m.link = .joining → m.census.isSome = true

namespace State

/-- Bus controller and membership unit, without what the channels add. -/
structure StationFit (s : State) : Prop where
  down : s.membership.link = .down → s.bus.inStep = false
  bus : s.bus.Sound
  membership : s.membership.Sound
  ranked : s.membership.link = .member ∨ s.membership.link = .leaving → s.ownRank.isSome = true
  counting : s.membership.census.isSome = true → s.bus.phase = .census

/-- R98: the channels ON_BUS are the one whose tenure is driven. -/
def DrivesOnBus (s : State) : Prop := ∀ c, (s.chan c).state = .onBus ↔ s.bus.drive = .tenure c

theorem busAndMembership_iff (s : State) :
    s.BusSound ∧ s.MembershipSound ↔ s.StationFit ∧ s.DrivesOnBus := by
  constructor
  · rintro ⟨⟨hdown, hout, hclaim, htenure, hcensus, hnoTenure, hnoCensus, honBus⟩, hidle, hformation, hranked, hjoining,
      hcounting⟩
    exact ⟨⟨hdown, ⟨hout, hclaim, htenure, hcensus, hnoTenure, hnoCensus⟩, ⟨hidle, hformation, hjoining⟩, hranked,
      hcounting⟩, honBus⟩
  · rintro ⟨⟨hdown, ⟨hout, hclaim, htenure, hcensus, hnoTenure, hnoCensus⟩, ⟨hidle, hformation, hjoining⟩, hranked,
      hcounting⟩, honBus⟩
    exact ⟨⟨hdown, hout, hclaim, htenure, hcensus, hnoTenure, hnoCensus, honBus⟩, hidle, hformation, hranked, hjoining,
      hcounting⟩

/-- R25: a station has a rank exactly when its own list holds its ID. -/
theorem ownRank_isSome_iff (s : State) : s.ownRank.isSome = true ↔ ∃ e ∈ s.order.list, e.id = s.straps.id := by
  rw [State.ownRank, List.findIdx?_isSome, List.any_eq_true]
  simp

/-! ### What leaves the station as it was -/

/-- Nothing of bus controller, order list, straps and membership unit changes but the membership note. -/
structure SameStation (s t : State) : Prop where
  bus : t.bus = s.bus
  list : t.order.list = s.order.list
  straps : t.straps = s.straps
  membership : ∃ n, t.membership = { s.membership with note := n }

theorem SameStation.refl (s : State) : SameStation s s := ⟨rfl, rfl, rfl, s.membership.note, rfl⟩

theorem SameStation.trans {s t u : State} (h : SameStation s t) (h' : SameStation t u) : SameStation s u := by
  obtain ⟨hbus, hlist, hstraps, n, hm⟩ := h
  obtain ⟨hbus', hlist', hstraps', n', hm'⟩ := h'
  exact ⟨hbus'.trans hbus, hlist'.trans hlist, hstraps'.trans hstraps, n', by rw [hm', hm]⟩

/-- A state that differs in other blocks alone. -/
theorem SameStation.of_eq {s t : State} (hbus : t.bus = s.bus) (horder : t.order = s.order) (hstraps : t.straps = s.straps)
    (hmembership : t.membership = s.membership) : SameStation s t :=
  ⟨hbus, congrArg OrderUnit.list horder, hstraps, s.membership.note, hmembership⟩

theorem StationFit.same {s t : State} (h : s.StationFit) (hst : SameStation s t) : t.StationFit := by
  obtain ⟨hbus, hlist, hstraps, n, hm⟩ := hst
  have hrank : t.ownRank = s.ownRank := by rw [State.ownRank, State.ownRank, hlist, hstraps]
  refine ⟨?_, hbus ▸ h.bus, ?_, ?_, ?_⟩
  · rw [hm, hbus]
    exact h.down
  · rw [hm]
    exact ⟨h.membership.idle, h.membership.formation, h.membership.joining⟩
  · rw [hm, hrank]
    exact h.ranked
  · rw [hm, hbus]
    exact h.counting

section

variable (s : State)

theorem setChan_sameStation (c : ChannelNo) (ch : Channel) : SameStation s (s.setChan c ch) := .of_eq rfl rfl rfl rfl

theorem setWin_sameStation (w : WindowNo) (x : Window) : SameStation s (s.setWin w x) := .of_eq rfl rfl rfl rfl

theorem setLanding_sameStation (l : Landing) : SameStation s (s.setLanding l) := .of_eq rfl rfl rfl rfl

theorem setLog_sameStation (l : CompletionLog) : SameStation s (s.setLog l) := .of_eq rfl rfl rfl rfl

theorem setCmd_sameStation (x : CommandPort) : SameStation s (s.setCmd x) := .of_eq rfl rfl rfl rfl

theorem setPace_sameStation (x : Vector Bool 4) : SameStation s (s.setPace x) := .of_eq rfl rfl rfl rfl

theorem note_sameStation (n : NoteReason) : SameStation s (s.note n) := by
  rcases Nat.lt_or_ge s.log.records.length 32 with h | h
  · rw [note_of_room s n h, grant_membership _ rfl]
    exact ⟨rfl, rfl, rfl, none, rfl⟩
  · rw [note_of_full s n h]
    exact ⟨rfl, rfl, rfl, some n, rfl⟩

theorem grant_sameStation (p : Producer) : SameStation s (s.grant p) := by
  cases p with
  | membership =>
    show SameStation s s.grantMembership
    unfold State.grantMembership
    split
    · exact .refl s
    · exact ⟨rfl, rfl, rfl, none, rfl⟩
  | channel c =>
    obtain ⟨ch, p, l, h⟩ := grantChannel_shape s c
    show SameStation s (s.grantChannel c)
    rw [h]
    exact .of_eq rfl rfl rfl rfl
  | window w =>
    obtain ⟨x, l, h⟩ := grantWindow_shape s w
    show SameStation s (s.grantWindow w)
    rw [h]
    exact .of_eq rfl rfl rfl rfl

theorem offer_sameStation (p : Producer) : SameStation s (s.offer p) := by
  unfold State.offer
  split
  · exact s.grant_sameStation p
  · exact .refl s

theorem requestRead_sameStation (c : ChannelNo) : SameStation s (s.requestRead c) := by
  obtain ⟨ch, p, h⟩ := requestRead_shape s c
  rw [h]
  exact .of_eq rfl rfl rfl rfl

theorem readPoint_sameStation (c : ChannelNo) : SameStation s (s.readPoint c) := by
  obtain ⟨ch, p, h⟩ := readPoint_shape s c
  rw [h]
  exact .of_eq rfl rfl rfl rfl

theorem startSegment_sameStation (c : ChannelNo) (r : SegmentRecord) (staged : List SegmentRecord) :
    SameStation s (s.startSegment c r staged) := by
  obtain ⟨ch, p, h⟩ := startSegment_shape s c r staged
  rw [h]
  exact .of_eq rfl rfl rfl rfl

theorem endSegment_sameStation (c : ChannelNo) (seg : Segment) (status : SegmentStatus) :
    SameStation s (s.endSegment c seg status) := by
  obtain ⟨ch, p, l, h⟩ := endSegment_shape s c seg status
  rw [h]
  exact .of_eq rfl rfl rfl rfl

theorem channelOutcome_sameStation (c : ChannelNo) (o : TenureOutcome) : SameStation s (s.channelOutcome c o) := by
  obtain ⟨ch, p, l, h⟩ := channelOutcome_shape s c o
  rw [h]
  exact .of_eq rfl rfl rfl rfl

theorem channelWithdrawal_sameStation (c : ChannelNo) : SameStation s (s.channelWithdrawal c) := by
  obtain ⟨ch, p, l, h⟩ := channelWithdrawal_shape s c
  rw [h]
  exact .of_eq rfl rfl rfl rfl

theorem takeFrame_sameStation (c : ChannelNo) (seg : Segment) (f : HeldFrame) : SameStation s (s.takeFrame c seg f) := by
  unfold State.takeFrame
  dsimp only
  split
  · exact .of_eq rfl rfl rfl rfl
  · exact (s.setChan_sameStation c _).trans (readPoint_sameStation _ c)

theorem dropStale_sameStation (c : ChannelNo) : SameStation s (s.dropStale c) := by
  unfold State.dropStale
  dsimp only
  split
  · exact (s.setChan_sameStation c _).trans (readPoint_sameStation _ c)
  · exact .of_eq rfl rfl rfl rfl

theorem writerAct_sameStation : SameStation s s.writerAct := by
  obtain ⟨w, p, h⟩ := writerAct_shape s
  rw [h]
  exact .of_eq rfl rfl rfl rfl

theorem drainTest_sameStation (w : WindowNo) : SameStation s (s.drainTest w) := by
  obtain ⟨x, h⟩ := drainTest_shape s w
  rw [h]
  exact .of_eq rfl rfl rfl rfl

theorem noteTest_sameStation (f : QueuedFrame) : SameStation s (s.noteTest f) := by
  obtain ⟨x, h⟩ := noteTest_shape s f
  rw [h]
  exact .of_eq rfl rfl rfl rfl

theorem faultWindow_sameStation (w : WindowNo) (address : Word) : SameStation s (s.faultWindow w address) := by
  rw [faultWindow_eq]
  exact (s.setLanding_sameStation _).trans (offer_sameStation _ _)

theorem landFrame_sameStation (sender : StationId) (f : WireFrame) : SameStation s (s.landFrame sender f) := by
  unfold State.landFrame
  split
  · exact .refl s
  · dsimp only
    split <;> exact .of_eq rfl rfl rfl rfl

theorem popRecord_sameStation : SameStation s s.popRecord := by
  unfold State.popRecord
  split
  · exact .refl s
  · unfold State.grantFreed
    repeat' split
    · exact (s.setLog_sameStation _).trans (grant_sameStation _ _)
    · exact .of_eq rfl rfl rfl rfl
    · exact .of_eq rfl rfl rfl rfl

theorem finishAccess_sameStation : SameStation s s.finishAccess := .of_eq rfl rfl rfl rfl

/-! ### Host commands that leave the station as it was -/

theorem push_sameStation : SameStation s s.push.1 := by
  unfold State.push
  dsimp only
  repeat' split
  · exact .refl s
  · exact s.startSegment_sameStation _ _ _
  · exact .of_eq rfl rfl rfl rfl
  · exact .refl s

theorem stopChannel_sameStation (c : ChannelNo) : SameStation s (s.stopChannel c).1 := by
  unfold State.stopChannel
  split
  · exact s.endSegment_sameStation c _ _
  · exact s.endSegment_sameStation c _ _
  · exact .of_eq rfl rfl rfl rfl
  · exact .refl s

theorem resumeChannel_sameStation (c : ChannelNo) : SameStation s (s.resumeChannel c).1 := by
  unfold State.resumeChannel
  repeat' split
  · exact s.startSegment_sameStation c _ _
  · exact .of_eq rfl rfl rfl rfl
  · exact .refl s

theorem flushChannel_sameStation (c : ChannelNo) : SameStation s (s.flushChannel c).1 := by
  unfold State.flushChannel
  dsimp only
  split
  · exact .refl s
  · exact (s.setChan_sameStation c _).trans (offer_sameStation _ _)

theorem openCommand_sameStation : SameStation s s.openCommand.1 := by
  unfold State.openCommand
  repeat' split
  all_goals exact .of_eq rfl rfl rfl rfl

theorem closeCommand_sameStation (w : WindowNo) : SameStation s (s.closeCommand w).1 := by
  unfold State.closeCommand
  dsimp only
  split
  · exact ((s.setWin_sameStation w _).trans (drainTest_sameStation _ w)).trans (offer_sameStation _ _)
  · exact ((s.setWin_sameStation w _).trans (drainTest_sameStation _ w)).trans (offer_sameStation _ _)
  · exact ((s.setWin_sameStation w _).trans (setWin_sameStation _ w _)).trans (offer_sameStation _ _)
  · exact .refl s
  · exact .refl s

theorem consumeCommand_sameStation (w : WindowNo) : SameStation s (s.consumeCommand w).1 := by
  unfold State.consumeCommand
  dsimp only
  repeat' split
  all_goals exact .of_eq rfl rfl rfl rfl

theorem rearmCommand_sameStation (w : WindowNo) : SameStation s (s.rearmCommand w).1 := by
  unfold State.rearmCommand
  split <;> exact .of_eq rfl rfl rfl rfl

/-- R165: a host command leaves the station as it was where its owner does. -/
theorem takeCommand_sameStation (code : BitVec 8) {act : State → State × Reply}
    (hact : ∀ u, SameStation u (act u).1) : Leads (SameStation s) (s.takeCommand code act) :=
  leads_takeCommand code (fun u x h => h.trans (u.setCmd_sameStation x)) (.refl s)
    fun u h => h.trans (hact u)

theorem onChannel_sameStation (act : ChannelNo → State × Reply) (h : ∀ c, SameStation s (act c).1) :
    SameStation s (s.onChannel act).1 := onChannel_keeps (.refl s) h

theorem onWindow_sameStation (act : WindowNo → State × Reply) (h : ∀ w, SameStation s (act w).1) :
    SameStation s (s.onWindow act).1 := onWindow_keeps (.refl s) h

end

end State

/-! ### Commands that leave the station as it was -/

/-- The commands of the memory port, of channels and windows, and of the register window. -/
def leavesStation : Instr → Bool
  | .paceActive _ _ | .frameReadCompletion _ | .readFault | .staleReadCompletion | .landingWriteCompletion
  | .splitFirstPartCompletion | .writeFault | .orphanCompletion | .push | .stop | .resume | .flush | .queryChannel
  | .openWindow | .closeWindow | .consume | .rearm | .queryWindow | .unknownCommand _ | .pop _ | .setInterruptEnable _
  | .registerWrite _ _ _ => true
  | _ => false

section

open State

variable (s : State)

theorem execPaceActive_sameStation (c : ChannelNo) (level : Bool) :
    Leads (SameStation s) (execPaceActive c level s) := by
  unfold execPaceActive
  dsimp only
  split
  · exact (s.setPace_sameStation _).trans (requestRead_sameStation _ c)
  · exact .of_eq rfl rfl rfl rfl

theorem execFrameReadCompletion_sameStation (words : List Word) :
    Leads (SameStation s) (execFrameReadCompletion words s) := by
  unfold execFrameReadCompletion
  repeat' split
  · exact (s.takeFrame_sameStation _ _ _).trans (finishAccess_sameStation _)
  all_goals trivial

theorem execReadFault_sameStation : Leads (SameStation s) (execReadFault s) := by
  unfold execReadFault
  split
  · exact ((s.setChan_sameStation _ _).trans (endSegment_sameStation _ _ _ _)).trans
      (finishAccess_sameStation _)
  · trivial

theorem execStaleReadCompletion_sameStation : Leads (SameStation s) (execStaleReadCompletion s) := by
  unfold execStaleReadCompletion
  repeat' split
  · exact (s.dropStale_sameStation _).trans (finishAccess_sameStation _)
  all_goals trivial

theorem execLandingWriteCompletion_sameStation : Leads (SameStation s) (execLandingWriteCompletion s) := by
  unfold execLandingWriteCompletion
  repeat' split
  next f _ _ =>
    have hwritten : SameStation s (s.frameWritten f) := .of_eq rfl rfl rfl rfl
    have hevents := (hwritten.trans (noteTest_sameStation _ f)).trans (drainTest_sameStation _ f.window)
    exact ((hevents.trans (offer_sameStation _ _)).trans (writerAct_sameStation _)).trans (finishAccess_sameStation _)
  all_goals trivial

theorem execSplitFirstPartCompletion_sameStation : Leads (SameStation s) (execSplitFirstPartCompletion s) := by
  unfold execSplitFirstPartCompletion
  split
  · split
    · trivial
    · exact .of_eq rfl rfl rfl rfl
  · trivial

theorem execWriteFault_sameStation : Leads (SameStation s) (execWriteFault s) := by
  unfold execWriteFault
  split
  · exact ((s.faultWindow_sameStation _ _).trans (writerAct_sameStation _)).trans (finishAccess_sameStation _)
  · trivial

theorem execOrphanCompletion_sameStation : Leads (SameStation s) (execOrphanCompletion s) := by
  unfold execOrphanCompletion
  split
  · exact finishAccess_sameStation s
  · trivial

theorem execQueryChannel_sameStation : Leads (SameStation s) (execQueryChannel s) := by
  unfold execQueryChannel
  exact s.takeCommand_sameStation _ fun u => u.onChannel_sameStation _ fun _ => .refl u

theorem execUnknownCommand_sameStation (code : BitVec 8) : Leads (SameStation s) (execUnknownCommand code s) := by
  unfold execUnknownCommand
  split
  · trivial
  · exact s.takeCommand_sameStation code fun u => .refl u

theorem execPop_sameStation (enable : Bool) : Leads (SameStation s) (execPop enable s) := by
  unfold execPop
  split
  · exact .refl s
  · exact (s.setCmd_sameStation _).trans (popRecord_sameStation _)

theorem execSetInterruptEnable_sameStation (enable : Bool) :
    Leads (SameStation s) (execSetInterruptEnable enable s) := by
  unfold execSetInterruptEnable
  split
  · exact .refl s
  · exact .of_eq rfl rfl rfl rfl

theorem execRegisterWrite_sameStation (w : PlainWord) (value : Word) (enables : BitVec 4) :
    Leads (SameStation s) (execRegisterWrite w value enables s) := by
  unfold execRegisterWrite
  repeat' split
  all_goals exact .of_eq rfl rfl rfl rfl

theorem exec_sameStation {i : Instr} (h : leavesStation i = true) : Leads (SameStation s) (exec i s) := by
  cases i with
  | paceActive c level => exact execPaceActive_sameStation s c level
  | frameReadCompletion words => exact execFrameReadCompletion_sameStation s words
  | readFault => exact execReadFault_sameStation s
  | staleReadCompletion => exact execStaleReadCompletion_sameStation s
  | landingWriteCompletion => exact execLandingWriteCompletion_sameStation s
  | splitFirstPartCompletion => exact execSplitFirstPartCompletion_sameStation s
  | writeFault => exact execWriteFault_sameStation s
  | orphanCompletion => exact execOrphanCompletion_sameStation s
  | push => exact s.takeCommand_sameStation _ push_sameStation
  | stop => exact s.takeCommand_sameStation _ fun u => u.onChannel_sameStation _ u.stopChannel_sameStation
  | resume => exact s.takeCommand_sameStation _ fun u => u.onChannel_sameStation _ u.resumeChannel_sameStation
  | flush => exact s.takeCommand_sameStation _ fun u => u.onChannel_sameStation _ u.flushChannel_sameStation
  | queryChannel => exact execQueryChannel_sameStation s
  | openWindow => exact s.takeCommand_sameStation _ openCommand_sameStation
  | closeWindow => exact s.takeCommand_sameStation _ fun u => u.onWindow_sameStation _ u.closeCommand_sameStation
  | consume => exact s.takeCommand_sameStation _ fun u => u.onWindow_sameStation _ u.consumeCommand_sameStation
  | rearm => exact s.takeCommand_sameStation _ fun u => u.onWindow_sameStation _ u.rearmCommand_sameStation
  | queryWindow =>
    exact s.takeCommand_sameStation _ fun u => u.onWindow_sameStation _ fun w => (u.queryWindow_state w).symm ▸ .refl u
  | unknownCommand code => exact execUnknownCommand_sameStation s code
  | pop enable => exact execPop_sameStation s enable
  | setInterruptEnable enable => exact execSetInterruptEnable_sameStation s enable
  | registerWrite w value enables => exact execRegisterWrite_sameStation s w value enables
  | _ => cases h

end

end Sys2Proof.Machine

namespace Sys2Proof.Machine

open Answered

/-! ### The membership unit's own operations -/

namespace Membership

variable {m : Membership}

theorem Sound.activity (h : m.Sound) : m.activity.Sound := by
  unfold Membership.activity
  split
  next hlink => exact ⟨fun _ => .inl hlink, h.formation, h.joining⟩
  next hlink => exact ⟨fun _ => .inr hlink, h.formation, h.joining⟩
  next hlink => exact ⟨h.idle, fun _ => hlink, h.joining⟩
  all_goals exact h

/-- R36, R40 to R43: a change of link state leaves timers and wants that fit; only a station with a census record can
become JOINING. -/
theorem enter_sound (m : Membership) (l : LinkState) (r : Option Reason)
    (hjoining : l = .joining → m.census.isSome = true) : (m.enter l r).Sound where
  idle := by cases l <;> simp [Membership.enter]
  formation := by cases l <;> simp [Membership.enter]
  joining := hjoining

end Membership

namespace BusController.Sound

variable {b : BusController} (h : b.Sound)

include h

/-- R20: the tenure end. -/
theorem endTenure (hphase : b.phase = .tenure) : b.endTenure.Sound where
  outOfStep _ := rfl
  claim _ hd := by cases hd
  tenure _ hd := by cases hd
  census _ _ hd := by cases hd
  noTenure _ := ⟨rfl, rfl, rfl, rfl⟩
  noCensus _ := h.noCensus (by simp [hphase])

/-- R21: the bus controller leaves CENSUS. -/
theorem endCensus (hphase : b.phase = .census) : b.endCensus.Sound where
  outOfStep _ := rfl
  claim _ hd := by cases hd
  tenure _ hd := by cases hd
  census _ _ hd := by cases hd
  noTenure _ := h.noTenure (by simp [hphase])
  noCensus _ := ⟨rfl, rfl, rfl⟩

/-- R1, R3: from SILENT or CONTEST a contest opens, in which the station contends or does not. -/
theorem openContest (htenure : b.phase ≠ .tenure) (hcensus : b.phase ≠ .census) {d : Drive}
    (hd : d = .nothing ∨ ∃ c, d = .claim c) (hstep : b.inStep = true) :
    ({ b with phase := .contest, winningCode := none, drive := d } : BusController).Sound where
  outOfStep hno := by
    rw [show b.inStep = false from hno] at hstep
    cases hstep
  claim _ _ := rfl
  tenure c hc := by
    rcases hd with rfl | ⟨x, rfl⟩ <;> cases hc
  census g part hc := by
    rcases hd with rfl | ⟨x, rfl⟩ <;> cases hc
  noTenure _ := h.noTenure htenure
  noCensus _ := h.noCensus hcensus

/-- The station stops driving. -/
theorem stopDriving : ({ b with drive := .nothing } : BusController).Sound where
  outOfStep := h.outOfStep
  claim _ hd := by cases hd
  tenure _ hd := by cases hd
  census _ _ hd := by cases hd
  noTenure := h.noTenure
  noCensus := h.noCensus

/-- R5, R6: the end of the claim code opens a tenure or a census, in which the station drives what belongs to it. -/
theorem claimCodeEnd (hphase : b.phase = .contest) {p : Phase} (code : BitVec 5) {d : Drive} (hstep : b.inStep = true)
    (hclaim : ∀ c, d ≠ .claim c) (htenure : ∀ c, d = .tenure c → p = .tenure)
    (hcensus : ∀ g part, d = .census g part → p = .census) :
    ({ b with phase := p, winningCode := some code, drive := d } : BusController).Sound where
  outOfStep hno := by
    rw [show b.inStep = false from hno] at hstep
    cases hstep
  claim c hc := absurd hc (hclaim c)
  tenure := htenure
  census := hcensus
  noTenure _ := h.noTenure (by simp [hphase])
  noCensus _ := h.noCensus (by simp [hphase])

/-- In a tenure, header, frames and verdict are free. -/
theorem inTenure (hphase : b.phase = .tenure) {x : BusController} (hstep : x.inStep = b.inStep) (hp : x.phase = b.phase)
    (hdrive : x.drive = b.drive ∨ x.drive = .nothing) (hanswer : x.answer = b.answer)
    (hheader : x.censusHeader = b.censusHeader) (hmarks : x.slotMarks = b.slotMarks) : x.Sound where
  outOfStep hno := by
    rw [hp]
    exact h.outOfStep (hstep ▸ hno)
  claim c hc := by
    rcases hdrive with hd | hd
    · rw [hp]
      exact h.claim c (hd ▸ hc)
    · rw [hd] at hc
      cases hc
  tenure c _ := hp.trans hphase
  census g part hc := by
    rcases hdrive with hd | hd
    · rw [hp]
      exact h.census g part (hd ▸ hc)
    · rw [hd] at hc
      cases hc
  noTenure hno := absurd (hp.trans hphase) hno
  noCensus hno := by
    rw [hanswer, hheader, hmarks]
    exact h.noCensus (hp ▸ hno)

/-- In a census, answers, header and slots are free, and a claimant drives its census. -/
theorem inCensus (hphase : b.phase = .census) {x : BusController} (hstep : x.inStep = b.inStep) (hp : x.phase = b.phase)
    (hdrive : ∀ c, x.drive = .tenure c ∨ (∃ k, x.drive = .claim k) → x.drive = b.drive)
    (hheader : x.header = b.header) (hverdict : x.verdict = b.verdict) (hecho : x.echoFailed = b.echoFailed)
    (hdestination : x.destination = b.destination) : x.Sound where
  outOfStep hno := by
    rw [hp]
    exact h.outOfStep (hstep ▸ hno)
  claim c hc := by
    rw [hp]
    exact h.claim c ((hdrive 0 (.inr ⟨c, hc⟩)) ▸ hc)
  tenure c hc := by
    rw [hp]
    exact h.tenure c ((hdrive c (.inl hc)) ▸ hc)
  census _ _ _ := hp.trans hphase
  noTenure hno := by
    rw [hheader, hverdict, hecho, hdestination]
    exact h.noTenure (hp ▸ hno)
  noCensus hno := absurd (hp.trans hphase) hno

end BusController.Sound

/-- R21: a claimant's next part is a part of its census. -/
theorem afterHeader_other {d : Drive} (hd : (∃ c, afterHeader d = .tenure c) ∨ ∃ k, afterHeader d = .claim k) :
    afterHeader d = d := by
  unfold afterHeader at *
  split at hd
  · rcases hd with ⟨c, hc⟩ | ⟨k, hk⟩
    · cases hc
    · cases hk
  · rfl

theorem afterSlotMark_other {d : Drive} (hd : (∃ c, afterSlotMark d = .tenure c) ∨ ∃ k, afterSlotMark d = .claim k) :
    afterSlotMark d = d := by
  unfold afterSlotMark at *
  split at hd
  · rcases hd with ⟨c, hc⟩ | ⟨k, hk⟩
    · cases hc
    · cases hk
  · rfl

namespace State.StationFit

variable {s : State} (h : s.StationFit)

include h

theorem census_none (hphase : s.bus.phase ≠ .census) : s.membership.census.isSome = false := by
  rw [Bool.eq_false_iff]
  exact fun hsome => hphase (h.counting hsome)

/-- The bus controller alone changes. -/
theorem setBus {b : BusController} (hb : b.Sound) (hdown : s.membership.link = .down → b.inStep = false)
    (hcounting : s.membership.census.isSome = true → b.phase = .census) : (s.setBus b).StationFit :=
  ⟨hdown, hb, h.membership, h.ranked, hcounting⟩

/-- The bus controller alone changes, and stays in its phase and in step. -/
theorem setBus_samePhase {b : BusController} (hb : b.Sound) (hphase : b.phase = s.bus.phase)
    (hstep : b.inStep = s.bus.inStep) : (s.setBus b).StationFit :=
  h.setBus hb (fun hdown => hstep.trans (h.down hdown)) fun hsome => hphase.trans (h.counting hsome)

/-- The membership unit alone changes. -/
theorem setMembership {m : Membership} (hm : m.Sound) (hdown : m.link = .down → s.bus.inStep = false)
    (hranked : m.link = .member ∨ m.link = .leaving → s.ownRank.isSome = true)
    (hcounting : m.census.isSome = true → s.bus.phase = .census) : (s.setMembership m).StationFit :=
  ⟨hdown, h.bus, hm, hranked, hcounting⟩

/-- Timers and wants alone change. -/
theorem setMembership_sameLink {m : Membership} (hm : m.Sound) (hlink : m.link = s.membership.link)
    (hcensus : m.census.isSome = true → s.membership.census.isSome = true) : (s.setMembership m).StationFit :=
  h.setMembership hm (fun hdown => h.down (hlink ▸ hdown)) (fun hm => h.ranked (hlink ▸ hm)) fun hsome =>
    h.counting (hcensus hsome)

theorem activity : s.activity.StationFit :=
  h.setMembership_sameLink h.membership.activity (activity_link _) fun hsome => by rwa [activity_census] at hsome

/-- A change of link state to one that asks for no rank, or to LEAVING from MEMBER. -/
theorem enter {l : LinkState} (r : Option Reason) (hdown : l ≠ .down) (hranked : l = .member ∨ l = .leaving →
    s.ownRank.isSome = true) (hjoining : l = .joining → s.membership.census.isSome = true) : (s.enter l r).StationFit :=
  h.setMembership (s.membership.enter_sound l r hjoining) (fun hd => absurd hd hdown) hranked h.counting

theorem note (n : NoteReason) : (s.note n).StationFit := h.same (s.note_sameStation n)

theorem enterWithNote {l : LinkState} (r : Reason) (hdown : l ≠ .down) (hranked : l = .member ∨ l = .leaving →
    s.ownRank.isSome = true) (hjoining : l = .joining → s.membership.census.isSome = true) :
    (s.enterWithNote l r).StationFit :=
  (h.enter (some r) hdown hranked hjoining).note _

/-- R43, R56, R57: a station that becomes LISTENING or OUT asks for nothing. -/
theorem enterWithNote_out (r : Reason) : (s.enterWithNote .out r).StationFit :=
  h.enterWithNote r (by simp) (by simp) (by simp)

theorem enterWithNote_listening (r : Reason) : (s.enterWithNote .listening r).StationFit :=
  h.enterWithNote r (by simp) (by simp) (by simp)

theorem enter_listening (r : Option Reason) : (s.enter .listening r).StationFit :=
  h.enter r (by simp) (by simp) (by simp)

theorem tenureCollision : s.tenureCollision.StationFit := by
  unfold State.tenureCollision
  split
  · exact h.enterWithNote_out _
  · exact h.enterWithNote_listening _
  all_goals exact h

theorem censusCollision : s.censusCollision.StationFit := by
  have hmarked : (s.setMembership
      { s.membership with
        census := s.membership.census.map fun r => { r with collided := true } }).StationFit := by
    refine h.setMembership_sameLink
      ⟨h.membership.idle, h.membership.formation, fun hjoining => ?_⟩ rfl fun hsome => by simpa using hsome
    simpa using h.membership.joining hjoining
  unfold State.censusCollision
  dsimp only
  split
  · exact hmarked.enterWithNote_out _
  · exact hmarked.enterWithNote_listening _
  · exact hmarked.enterWithNote_listening _
  · exact hmarked.enterWithNote_listening _
  · exact hmarked
  · exact hmarked

/-! ### Tenure end, abandonment, census end -/

/-- R20: the tenure end. -/
theorem tenureEnd (hphase : s.bus.phase = .tenure) (o : TenureOutcome) : (s.tenureEnd o).StationFit := by
  have hnone := h.census_none (by simp [hphase])
  obtain ⟨chs, land, p, l, n, heq⟩ := tenureEnd_shape s o
  rw [heq]
  refine ⟨h.down, h.bus.endTenure hphase, ⟨h.membership.idle, h.membership.formation, h.membership.joining⟩,
    fun hlink => ?_, fun hsome => ?_⟩
  · rw [ownRank_isSome_iff]
    obtain ⟨e, he, hid⟩ := (ownRank_isSome_iff s).1 (h.ranked hlink)
    exact ⟨e, (rotated_perm _ _ _ _).mem_iff.2 he, hid⟩
  · rw [show s.membership.census.isSome = true from hsome] at hnone
    cases hnone

/-- R22, R55: the census in progress is abandoned. -/
theorem abandonCensus (hphase : s.bus.phase = .census) : s.abandonCensus.StationFit := by
  have hb := h.bus.endCensus hphase
  unfold State.abandonCensus State.censusAbandoned
  dsimp only
  split
  next hjoining =>
    exact ⟨fun hd => (by cases hd), hb, Membership.enter_sound _ .listening none (by simp),
      fun hl => (by rcases hl with hl | hl <;> cases hl), fun hsome => (by cases hsome)⟩
  next hnot =>
    exact ⟨h.down, hb, ⟨h.membership.idle, h.membership.formation, fun hj => absurd hj hnot⟩, h.ranked,
      fun hsome => (by cases hsome)⟩

/-- R45: a good census header opens a record, and a LISTENING station becomes JOINING. -/
theorem openCensus (hphase : s.bus.phase = .census) (hd : CensusHeader) : (s.openCensus hd).StationFit := by
  have hopened : (s.setMembership { s.membership with census := some (recordOf hd) }).StationFit :=
    h.setMembership ⟨h.membership.idle, h.membership.formation, fun _ => rfl⟩ h.down h.ranked fun _ => hphase
  unfold State.openCensus
  dsimp only
  split
  · exact hopened.enter none (by simp) (by simp) fun _ => rfl
  · exact hopened

/-- R47, R48, R49: another record takes the place of the one in progress. -/
theorem setCensus (hphase : s.bus.phase = .census) (q : CensusRecord) :
    (s.setMembership { s.membership with census := some q }).StationFit :=
  h.setMembership ⟨h.membership.idle, h.membership.formation, fun _ => rfl⟩ h.down h.ranked fun _ => hphase

theorem compareWithReference (hphase : s.bus.phase = .census) (r : CensusRecord) (reference : List Entry) :
    (s.compareWithReference r reference).StationFit := by
  unfold State.compareWithReference
  repeat' split
  · exact h
  · exact (h.setCensus hphase { r with diverged := true }).enterWithNote .diverged (by simp) (by simp) fun _ => rfl
  · exact h.enterWithNote_out _
  all_goals exact h

/-- R47, R48: a station that takes the reference as its list is JOINING. -/
theorem endListSlots (hphase : s.bus.phase = .census) (r : CensusRecord) : (s.endListSlots r).StationFit := by
  have hset := h.setCensus hphase { r with reference := some (r.reference.getD []) }
  have hcompared := hset.compareWithReference hphase { r with reference := some (r.reference.getD []) }
    (r.reference.getD [])
  unfold State.endListSlots
  dsimp only
  split
  next hjoining =>
    refine ⟨hcompared.down, hcompared.bus, hcompared.membership, fun hl => ?_, hcompared.counting⟩
    rw [setOrder_membership, hjoining] at hl
    simp at hl
  next => exact hcompared

theorem followSlot (hphase : s.bus.phase = .census) (k : Nat) : (s.followSlot k).StationFit := by
  have hanswer {t : State} (ht : t.StationFit) (hp : t.bus.phase = .census) (a : Option Answer) :
      (t.setBus { t.bus with answer := a }).StationFit :=
    ht.setBus_samePhase (ht.bus.inCensus hp rfl rfl (fun _ _ => rfl) rfl rfl rfl rfl) rfl rfl
  unfold State.followSlot
  split
  · exact h
  next r _ =>
    dsimp only
    split
    · exact hanswer h hphase _
    · split
      · refine hanswer (h.endListSlots hphase r) ?_ _
        obtain ⟨o, m, l, heq⟩ := endListSlots_shape s r
        rw [heq]
        exact hphase
      · exact hanswer h hphase _

/-- R50 to R53: a station in the new list keeps or takes its place; one that is not in it has none. -/
theorem censusEnd : s.censusEnd.StationFit := by
  unfold State.censusEnd
  split
  next r _ =>
    have hlink : (s.installCensus r).membership.link = s.membership.link := rfl
    have hdown : (s.installCensus r).membership.link = .down → (s.installCensus r).bus.inStep = false := h.down
    have hidle : (s.installCensus r).membership.Sound ∨ s.membership.link = .joining := by
      by_cases hj : s.membership.link = .joining
      · exact .inr hj
      · refine .inl ⟨fun hi => h.membership.idle (hi.imp_right fun hfalse => by cases hfalse), h.membership.formation,
          fun hjoining => absurd hjoining hj⟩
    have henter (l : LinkState) (reason : Option Reason) (hd : l ≠ .down) (hj : l ≠ .joining)
        (hr : l = .member ∨ l = .leaving → (s.installCensus r).ownRank.isSome = true) :
        ((s.installCensus r).enter l reason).StationFit :=
      ⟨fun hdown => absurd hdown hd, h.bus, Membership.enter_sound _ l reason fun hjoining => absurd hjoining hj, hr,
        fun hsome => by cases hsome⟩
    have hstay (hj : s.membership.link ≠ .joining)
        (hr : s.membership.link = .member ∨ s.membership.link = .leaving → (s.installCensus r).ownRank.isSome = true) :
        (s.installCensus r).StationFit :=
      ⟨hdown, h.bus, hidle.resolve_right hj, hr, fun hsome => by cases hsome⟩
    unfold State.linkAtCensusEnd
    split
    next hlink =>
      split
      next hrank => exact (henter .member _ (by simp) (by simp) fun _ => hrank).note _
      next => exact henter .listening none (by simp) (by simp) (by simp)
    next hlink =>
      have hj : s.membership.link ≠ .joining := by
        rw [show s.membership.link = .member from hlink]
        simp
      split
      next hrank =>
        split
        · exact hstay hj fun _ => hrank
        · exact (hstay hj fun _ => hrank).note _
      next => exact (henter .listening _ (by simp) (by simp) (by simp)).note _
    next hlink =>
      have hj : s.membership.link ≠ .joining := by
        rw [show s.membership.link = .leaving from hlink]
        simp
      split
      next => exact (henter .out _ (by simp) (by simp) (by simp)).note _
      next hstays =>
        rw [Bool.or_eq_true, not_or] at hstays
        refine hstay hj fun _ => ?_
        exact Option.isSome_iff_ne_none.2 fun hnone => hstays.2 (by rw [hnone]; rfl)
    all_goals
      rename_i hlink
      have hlink' := show s.membership.link = _ from hlink
      exact hstay (by simp [hlink']) (by simp [hlink'])
  next => exact h

end State.StationFit

end Sys2Proof.Machine

namespace Sys2Proof.Machine

open Answered

namespace State

/-! ### The rows of the bus -/

theorem abandonCensus_bus (s : State) : s.abandonCensus.bus = s.bus.endCensus := by
  obtain ⟨m, heq⟩ := censusAbandoned_shape s
  unfold State.abandonCensus
  rw [heq]
  rfl

theorem tenureEnd_bus (s : State) (o : TenureOutcome) : (s.tenureEnd o).bus = s.bus.endTenure := by
  obtain ⟨chs, land, p, l, n, heq⟩ := tenureEnd_shape s o
  rw [heq]
  rfl

/-- R1: what a start mark ends is over when its contest opens. -/
theorem endedByStartMark_bus (s : State) :
    s.endedByStartMark.bus.inStep = s.bus.inStep ∧ s.endedByStartMark.bus.phase ≠ .tenure ∧
      s.endedByStartMark.bus.phase ≠ .census := by
  unfold State.endedByStartMark
  split
  · rw [tenureEnd_bus]
    exact ⟨rfl, by simp [BusController.endTenure], by simp [BusController.endTenure]⟩
  · rw [abandonCensus_bus]
    exact ⟨rfl, by simp [BusController.endCensus], by simp [BusController.endCensus]⟩
  next hphase => exact ⟨rfl, by simp [hphase], by simp [hphase]⟩
  next hphase => exact ⟨rfl, by simp [hphase], by simp [hphase]⟩

/-- R50: the census record is closed at census end. -/
theorem censusEnd_census (s : State) : s.censusEnd.membership.census = none := by
  unfold State.censusEnd
  split
  next r _ =>
    have hclosed : (s.installCensus r).membership.census = none := rfl
    unfold State.linkAtCensusEnd State.enterWithNote State.enter
    repeat' split
    all_goals simp only [note_census, setMembership_membership, Membership.enter, hclosed]
  next hnone => exact hnone

theorem follows_inStep {s : State} (h : s.follows = true) : s.bus.inStep = true := by
  rw [State.follows, Bool.and_eq_true] at h
  exact h.1

namespace StationFit

variable {s : State} (h : s.StationFit)

include h

theorem endedByStartMark : s.endedByStartMark.StationFit := by
  unfold State.endedByStartMark
  split
  next hphase => exact h.tenureEnd hphase _
  next hphase => exact h.abandonCensus hphase
  · exact h
  · exact h

/-- R1, R3: from SILENT or CONTEST a contest opens. -/
theorem toContest (htenure : s.bus.phase ≠ .tenure) (hcensus : s.bus.phase ≠ .census) {d : Drive}
    (hd : d = .nothing ∨ ∃ c, d = .claim c) (hstep : s.bus.inStep = true) :
    (s.setBus { s.bus with phase := .contest, winningCode := none, drive := d }).StationFit := by
  refine h.setBus (h.bus.openContest htenure hcensus hd hstep) h.down fun hsome => ?_
  exact absurd (h.counting hsome) hcensus

theorem execStartMark : Leads StationFit (execStartMark s) := by
  unfold Machine.execStartMark
  repeat' split
  · exact h
  next _ hstep =>
    have hended := h.endedByStartMark
    obtain ⟨hkept, htenure, hcensus⟩ := s.endedByStartMark_bus
    refine hended.activity.toContest htenure hcensus ?_ (hkept.trans hstep)
    split
    · exact .inr ⟨_, rfl⟩
    · exact .inl rfl
  next hdown hstep =>
    have hsilent := h.bus.outOfStep (Bool.eq_false_iff.2 hstep)
    refine StationFit.activity ?_
    refine h.setBus ?_ (fun hd => absurd hd hdown) fun hsome => ?_
    · exact ⟨fun hno => (by cases hno), fun _ hd => (by cases hd), fun _ hd => (by cases hd), fun _ _ hd => (by cases hd),
        fun _ => h.bus.noTenure (by simp [hsilent]), fun _ => h.bus.noCensus (by simp [hsilent])⟩
    · have hcount := h.counting hsome
      rw [hsilent] at hcount
      cases hcount

theorem execContestLoss : Leads StationFit (execContestLoss s) := by
  unfold Machine.execContestLoss
  split
  · exact h.setBus_samePhase h.bus.stopDriving rfl rfl
  · trivial

/-- R6: what the winner does at the end of the claim code. -/
theorem takeWin (hphase : s.bus.phase = .contest) (hstep : s.bus.inStep = true) (code : BitVec 5) (won : Option Claim) :
    ((s.setBus
        { s.bus with phase := if tenureKind code then .tenure else .census, winningCode := some code }).takeWin
          (tenureKind code) won).StationFit := by
  have hwon {d : Drive} (hclaim : ∀ c, d ≠ .claim c) (htenure : ∀ c, d = .tenure c → tenureKind code = true)
      (hcensus : ∀ g part, d = .census g part → tenureKind code = false) :
      (s.setBus
        { s.bus with phase := if tenureKind code then .tenure else .census, winningCode := some code,
                     drive := d }).StationFit := by
    refine h.setBus (h.bus.claimCodeEnd hphase code hstep hclaim ?_ ?_) h.down fun hsome => ?_
    · exact fun c hc => by rw [if_pos (htenure c hc)]
    · exact fun g part hc => by rw [hcensus g part hc]; rfl
    · rw [h.census_none (by simp [hphase])] at hsome
      cases hsome
  have hnothing := hwon (d := .nothing) (by simp) (by simp) (by simp)
  unfold State.takeWin
  split
  next hkind =>
    unfold State.sendTenure
    split
    next c _ =>
      have hsent := hwon (d := .tenure c) (by simp) (fun _ _ => hkind) (by simp)
      exact hsent.same ⟨rfl, rfl, rfl, s.membership.note, rfl⟩
    next => exact hnothing
  next hkind => exact hwon (by simp) (by simp) fun _ _ _ => hkind
  next => exact hnothing

theorem execClaimCodeEnd (code : BitVec 5) : Leads StationFit (execClaimCodeEnd code s) := by
  unfold Machine.execClaimCodeEnd
  by_cases hphase : s.bus.phase = .contest
  · rw [if_pos hphase]
    split
    next hfollows => exact h.takeWin hphase (follows_inStep hfollows) code _
    next => exact h
  · rw [if_neg hphase]
    split
    · trivial
    · exact h

theorem execContestSilence : Leads StationFit (execContestSilence s) := by
  unfold Machine.execContestSilence
  repeat' split
  next _ hphase =>
    refine h.setBus ?_ h.down fun hsome => ?_
    · exact ⟨fun _ => rfl, fun _ hd => (by cases hd), fun _ hd => (by cases hd), fun _ _ hd => (by cases hd),
        fun _ => h.bus.noTenure (by simp [hphase]), fun _ => h.bus.noCensus (by simp [hphase])⟩
    · rw [h.census_none (by simp [hphase])] at hsome
      cases hsome
  · trivial
  · exact h

theorem execStepInSilence : Leads StationFit (execStepInSilence s) := by
  unfold Machine.execStepInSilence
  repeat' split
  · exact h
  · trivial
  next hdown hstep =>
    have hsilent := h.bus.outOfStep (Bool.eq_false_iff.2 hstep)
    refine h.setBus ?_ (fun hd => absurd hd hdown) fun hsome => ?_
    · exact ⟨fun _ => rfl, fun c hd => (by have := h.bus.claim c hd; simp_all), fun c hd => (by have := h.bus.tenure c hd; simp_all),
        fun g part hd => (by have := h.bus.census g part hd; simp_all),
        fun _ => h.bus.noTenure (by simp [hsilent]), fun _ => h.bus.noCensus (by simp [hsilent])⟩
    · have hcount := h.counting hsome
      rw [hsilent] at hcount
      cases hcount

/-- R9, R10, R12, R15, R17: within a tenure. -/
theorem withinTenure (hphase : s.bus.phase = .tenure) {x : BusController} (hstep : x.inStep = s.bus.inStep)
    (hp : x.phase = s.bus.phase) (hdrive : x.drive = s.bus.drive ∨ x.drive = .nothing) (hanswer : x.answer = s.bus.answer)
    (hheader : x.censusHeader = s.bus.censusHeader) (hmarks : x.slotMarks = s.bus.slotMarks) :
    (s.setBus x).StationFit :=
  h.setBus_samePhase (h.bus.inTenure hphase hstep hp hdrive hanswer hheader hmarks) hp hstep

theorem takeHeader (hphase : s.bus.phase = .tenure) (hd : Header) : (s.takeHeader hd).StationFit := by
  have hcompared : (s.compareHeader hd.sender).StationFit := h.same ⟨rfl, rfl, rfl, s.membership.note, rfl⟩
  have hset := hcompared.withinTenure hphase
    (x := { (s.compareHeader hd.sender).bus with header := .good hd, framesReceived := 0,
                                                 destination := s.isDestination hd })
    rfl rfl (.inl rfl) rfl rfl rfl
  unfold State.takeHeader
  dsimp only
  split
  · exact hset.same ⟨rfl, rfl, rfl, s.membership.note, rfl⟩
  · exact hset

theorem execTenureHeader (w : WireHeader) : Leads StationFit (execTenureHeader w s) := by
  unfold Machine.execTenureHeader
  repeat' split
  next hpoint _ _ _ => exact h.activity.takeHeader hpoint.1 _
  next hpoint _ _ => exact h.activity.withinTenure hpoint.1 rfl rfl (.inl rfl) rfl rfl rfl
  · trivial
  · exact h

theorem takeFrameArrival (hphase : s.bus.phase = .tenure) (hd : Header) (f : WireFrame) :
    (s.takeFrameArrival hd f).StationFit := by
  have hcounted := h.withinTenure hphase (x := { s.bus with framesReceived := s.bus.framesReceived + 1 })
    rfl rfl (.inl rfl) rfl rfl rfl
  unfold State.takeFrameArrival
  dsimp only
  repeat' split
  · exact hcounted.same (State.landFrame_sameStation _ _ _)
  · exact h.withinTenure hphase rfl rfl (.inl rfl) rfl rfl rfl
  · exact hcounted

theorem execFrame (f : WireFrame) : Leads StationFit (execFrame f s) := by
  unfold Machine.execFrame
  repeat' split
  next hphase _ _ _ _ =>
    refine h.activity.takeFrameArrival ?_ _ f
    rw [Bool.and_eq_true, beq_iff_eq] at hphase
    exact hphase.2
  · exact h.activity
  · exact h.activity
  · trivial
  · exact h
  · trivial

theorem execVerdictMark : Leads StationFit (execVerdictMark s) := by
  unfold Machine.execVerdictMark
  repeat' split
  next hphase _ =>
    rw [Bool.and_eq_true, beq_iff_eq] at hphase
    exact h.activity.withinTenure hphase.2 rfl rfl (.inl rfl) rfl rfl rfl
  · trivial
  · exact h

theorem execVerdictSample (lines : Lines) : Leads StationFit (execVerdictSample lines s) := by
  unfold Machine.execVerdictSample
  repeat' split
  next hphase _ => exact h.tenureEnd hphase _
  · trivial
  · exact h

theorem execTruncation : Leads StationFit (execTruncation s) := by
  unfold Machine.execTruncation
  repeat' split
  next hpoint => exact h.tenureEnd hpoint.1 _
  · trivial
  · exact h

theorem reportWithdrawal (c : ChannelNo) : (s.reportWithdrawal c).StationFit := by
  have hdrawn : s.draw.2.StationFit := h.same ⟨rfl, rfl, rfl, s.membership.note, rfl⟩
  unfold State.reportWithdrawal
  dsimp only
  repeat' split
  · exact (hdrawn.same (channelWithdrawal_sameStation _ c)).tenureCollision
  · exact hdrawn.tenureCollision.same (channelWithdrawal_sameStation _ c)
  · exact (h.same (channelWithdrawal_sameStation _ c)).tenureCollision

theorem execEchoWithdrawal : Leads StationFit (execEchoWithdrawal s) := by
  unfold Machine.execEchoWithdrawal
  split
  · exact (h.setBus_samePhase h.bus.stopDriving rfl rfl).reportWithdrawal _
  · trivial

theorem execEchoMismatchTenure : Leads StationFit (execEchoMismatchTenure s) := by
  unfold Machine.execEchoMismatchTenure
  split
  next hphase _ _ =>
    have hstopped := h.withinTenure hphase
      (x := { s.bus with drive := .nothing, echoFailed := true, destination := false }) rfl rfl (.inr rfl) rfl rfl rfl
    exact hstopped.same (channelOutcome_sameStation _ _ _)
  · trivial

/-- R16, R21: within a census. -/
theorem withinCensus (hphase : s.bus.phase = .census) {x : BusController} (hstep : x.inStep = s.bus.inStep)
    (hp : x.phase = s.bus.phase) (hdrive : ∀ c, x.drive = .tenure c ∨ (∃ k, x.drive = .claim k) → x.drive = s.bus.drive)
    (hheader : x.header = s.bus.header) (hverdict : x.verdict = s.bus.verdict) (hecho : x.echoFailed = s.bus.echoFailed)
    (hdestination : x.destination = s.bus.destination) : (s.setBus x).StationFit :=
  h.setBus_samePhase (h.bus.inCensus hphase hstep hp hdrive hheader hverdict hecho hdestination) hp hstep

theorem execEchoMismatchCensus : Leads StationFit (execEchoMismatchCensus s) := by
  unfold Machine.execEchoMismatchCensus
  split
  next hphase _ => exact h.withinCensus hphase rfl rfl (fun _ _ => rfl) rfl rfl rfl rfl
  · split
    · exact (h.setBus_samePhase h.bus.stopDriving rfl rfl).censusCollision
    · trivial
  · trivial

theorem execCensusHeader (w : WireCensusHeader) : Leads StationFit (execCensusHeader w s) := by
  have hafter (v : CensusHeaderView) (hphase : s.bus.phase = .census) :
      (s.activity.setBus { s.bus with censusHeader := v, drive := afterHeader s.bus.drive }).StationFit := by
    refine h.activity.withinCensus hphase rfl rfl (fun c hd => ?_) rfl rfl rfl rfl
    exact afterHeader_other (hd.imp_left fun hc => ⟨c, hc⟩)
  unfold Machine.execCensusHeader
  repeat' split
  next hpoint _ _ _ => exact (hafter _ hpoint.1).openCensus hpoint.1 _
  next hpoint _ _ => exact hafter _ hpoint.1
  · trivial
  · exact h

theorem execCensusSlotTime : Leads StationFit (execCensusSlotTime s) := by
  unfold Machine.execCensusSlotTime
  repeat' split
  next hphase _ _ _ _ =>
    exact h.withinCensus hphase rfl rfl (fun c hd => (by rcases hd with hd | ⟨k, hd⟩ <;> cases hd)) rfl rfl rfl rfl
  · trivial
  · trivial
  · trivial
  · exact h
  · exact h
  · exact h
  · trivial
  · exact h

theorem execSlotMark : Leads StationFit (execSlotMark s) := by
  unfold Machine.execSlotMark
  split
  next hpoint =>
    rw [Bool.and_eq_true, beq_iff_eq] at hpoint
    have hmarked : (s.activity.setBus
        { s.bus with slotMarks := s.bus.slotMarks + 1, slotAnswered := false, answer := none,
                     drive := afterSlotMark s.bus.drive }).StationFit := by
      refine h.activity.withinCensus hpoint.2 rfl rfl (fun c hd => ?_) rfl rfl rfl rfl
      exact afterSlotMark_other (hd.imp_left fun hc => ⟨c, hc⟩)
    exact hmarked.followSlot hpoint.2 _
  next => exact h

theorem markAnswered (hphase : s.bus.phase = .census) : s.activity.markAnswered.StationFit :=
  h.activity.withinCensus hphase rfl rfl (fun _ _ => rfl) rfl rfl rfl rfl

omit h in
theorem slotOpen_phase (hopen : s.slotOpen = true) : s.bus.phase = .census := by
  rw [State.slotOpen, Bool.and_eq_true, Bool.and_eq_true, beq_iff_eq] at hopen
  exact hopen.1.1

theorem takeListAnswer (hphase : s.bus.phase = .census) (r : CensusRecord) (a : WireListAnswer) :
    (s.takeListAnswer r a).StationFit := by
  unfold State.takeListAnswer
  split
  · exact h.setCensus hphase _
  · exact h

theorem takeJoinAnswer (hphase : s.bus.phase = .census) (r : CensusRecord) (j : Nat) (a : WireJoinAnswer) :
    (s.takeJoinAnswer r j a).StationFit := by
  unfold State.takeJoinAnswer
  split
  · exact h.setCensus hphase _
  · exact h

theorem execListSlotAnswer (a : WireListAnswer) : Leads StationFit (execListSlotAnswer a s) := by
  unfold Machine.execListSlotAnswer
  repeat' split
  next hopen _ _ => exact h.markAnswered (slotOpen_phase hopen)
  next hopen _ _ _ _ => exact (h.markAnswered (slotOpen_phase hopen)).takeListAnswer (s := s.activity.markAnswered) (slotOpen_phase (s := s) hopen) _ a
  · trivial
  · trivial
  · exact h
  · trivial

theorem execJoinSlotAnswer (a : WireJoinAnswer) : Leads StationFit (execJoinSlotAnswer a s) := by
  unfold Machine.execJoinSlotAnswer
  repeat' split
  next hopen _ _ => exact h.markAnswered (slotOpen_phase hopen)
  next hopen _ _ _ _ => exact (h.markAnswered (slotOpen_phase hopen)).takeJoinAnswer (s := s.activity.markAnswered) (slotOpen_phase (s := s) hopen) _ _ a
  · trivial
  · trivial
  · exact h

/-- R21, R50: census end at the membership unit, then at the bus controller. -/
theorem endCensus (hphase : s.bus.phase = .census) : (s.censusEnd.setBus s.bus.endCensus).StationFit := by
  have hend := h.censusEnd
  refine hend.setBus (h.bus.endCensus hphase) (fun hdown => ?_) fun hsome => ?_
  · obtain ⟨o, m, l, heq⟩ := censusEnd_shape s
    have hbus : s.censusEnd.bus = s.bus := by
      rw [heq]
      rfl
    rw [← hbus]
    exact hend.down hdown
  · rw [censusEnd_census] at hsome
    cases hsome

theorem execEndMark : Leads StationFit (execEndMark s) := by
  unfold Machine.execEndMark
  split
  next hpoint =>
    rw [Bool.and_eq_true, beq_iff_eq] at hpoint
    exact h.activity.endCensus hpoint.2
  next => exact h

theorem execCensusAbandonSilence : Leads StationFit (execCensusAbandonSilence s) := by
  unfold Machine.execCensusAbandonSilence
  repeat' split
  next hphase => exact h.abandonCensus hphase
  · trivial
  · exact h

theorem execIdleTimerExpiry : Leads StationFit (execIdleTimerExpiry s) := by
  unfold Machine.execIdleTimerExpiry
  split
  next hrunning =>
    exact h.setMembership_sameLink
      ⟨fun _ => h.membership.idle (.inl hrunning), h.membership.formation, h.membership.joining⟩ rfl id
  · trivial

theorem execFormationTimerExpiry : Leads StationFit (execFormationTimerExpiry s) := by
  unfold Machine.execFormationTimerExpiry
  split
  next hrunning =>
    exact h.setMembership_sameLink
      ⟨h.membership.idle, fun _ => h.membership.formation (.inl hrunning), h.membership.joining⟩ rfl id
  · trivial

/-! ### Resets and membership commands -/

omit h in
theorem reset_sound : BusController.reset.Sound :=
  ⟨fun _ => rfl, fun _ hd => (by cases hd), fun _ hd => (by cases hd), fun _ _ hd => (by cases hd),
    fun _ => ⟨rfl, rfl, rfl, rfl⟩, fun _ => ⟨rfl, rfl, rfl⟩⟩

omit h in
theorem resetAsserted (s : State) :
    ((s.clearBlocks.setPort MemPort.reset).setMembership { s.clearBlocks.membership with link := .down }).StationFit :=
  ⟨fun _ => rfl, reset_sound, ⟨fun hi => (by rcases hi with hi | hi <;> cases hi),
    fun hi => (by rcases hi with hi | hi <;> cases hi), fun hj => (by cases hj)⟩,
    fun hl => (by rcases hl with hl | hl <;> cases hl), fun hsome => (by cases hsome)⟩

omit h in
/-- R37: the station comes up LISTENING or OUT. -/
theorem comeUp (hbus : s.bus.Sound) (hcounting : s.membership.census.isSome = true → s.bus.phase = .census) (pins : StrapPins) : (s.comeUp pins).StationFit := by
  have hnot : (if (sampleStraps pins).autoJoin then LinkState.listening else .out) ≠ .joining ∧
      (if (sampleStraps pins).autoJoin then LinkState.listening else .out) ≠ .down ∧
      (if (sampleStraps pins).autoJoin then LinkState.listening else .out) ≠ .member ∧
      (if (sampleStraps pins).autoJoin then LinkState.listening else .out) ≠ .leaving := by
    split <;> simp
  obtain ⟨hjoining, hdown, hmember, hleaving⟩ := hnot
  exact ⟨fun hd => absurd hd hdown, hbus, Membership.enter_sound _ _ _ fun hj => absurd hj hjoining,
    fun hl => hl.elim (fun hm => absurd hm hmember) fun hm => absurd hm hleaving, hcounting⟩

theorem execResetReleased (pins : StrapPins) : Leads StationFit (execResetReleased pins s) := by
  unfold Machine.execResetReleased
  split
  · exact comeUp h.bus h.counting pins
  · trivial

theorem execStationReset (pins : StrapPins) : Leads StationFit (execStationReset pins s) := by
  unfold Machine.execStationReset
  split
  next => exact h
  next => exact (comeUp (s := s.clearBlocks.setPort s.port.stationReset) reset_sound (fun hsome => by cases hsome) pins).note _

theorem leaveCommand : s.leaveCommand.1.StationFit := by
  unfold State.leaveCommand
  split
  next hlink => exact h.enter none (by simp) (fun _ => h.ranked (.inl hlink)) (by simp)
  · exact h.enterWithNote_out _
  · exact h.enterWithNote_out _
  all_goals exact h

theorem joinCommand : s.joinCommand.1.StationFit := by
  unfold State.joinCommand
  split
  · exact h.enter_listening _
  all_goals exact h

end StationFit

end State

end Sys2Proof.Machine

namespace Sys2Proof.Machine

open Answered

/-! ## The channel ON_BUS (R98) -/

/-- R98, R100, R110: a channel is ON_BUS exactly where its tenure is driven, and then it holds a segment, and neither an
ending record nor a deferred read point. -/
structure Channel.Rides (ch : Channel) (driven : Prop) : Prop where
  driven_iff : ch.state = .onBus ↔ driven
  current : ch.state = .onBus → ch.current.isSome = true
  ending : ch.state = .onBus → ch.ending = none
  deferred : ch.state = .onBus → ch.deferred = false

namespace Channel

variable {ch : Channel} {driven : Prop}

theorem Rides.of_off (hstate : ch.state ≠ .onBus) (hdriven : ¬ driven) : ch.Rides driven :=
  ⟨iff_of_false hstate hdriven, fun h => absurd h hstate, fun h => absurd h hstate, fun h => absurd h hstate⟩

/-- R98: what an ON_BUS channel keeps while other fields of it change. -/
theorem Rides.of_same (h : ch.Rides driven) {x : Channel} (hstate : x.state = ch.state)
    (hcurrent : ch.current.isSome = true → x.current.isSome = true) (hending : x.ending = ch.ending)
    (hdeferred : ch.deferred = false → x.deferred = false) : x.Rides driven :=
  ⟨hstate ▸ h.driven_iff, fun hx => hcurrent (h.current (hstate ▸ hx)), fun hx => hending.trans (h.ending (hstate ▸ hx)),
    fun hx => hdeferred (h.deferred (hstate ▸ hx))⟩

end Channel

namespace State

/-- The channels ON_BUS are those whose tenure `d` is, at most one. -/
def Rides (s : State) (d : Drive) : Prop := ∀ c, (s.chan c).Rides (d = .tenure c)

/-- No channel is ON_BUS. -/
def NoneOnBus (s : State) : Prop := ∀ c, (s.chan c).state ≠ .onBus

variable {s t : State} {d : Drive} {c : ChannelNo}

theorem rides_of_drivesOnBus (h : s.DrivesOnBus) (hchannels : s.ChannelsSound) : s.Rides s.bus.drive := by
  intro c
  have hsound := (hchannels.2 c).1
  refine ⟨h c, fun hstate => ?_, fun hstate => ?_, fun hstate => ?_⟩
  all_goals
    obtain ⟨seg, hseg⟩ := hsound.current (by simp [hstate]) (by simp [hstate])
    obtain ⟨-, -, -, -, -, -, -, hending, hdeferred, -⟩ := (Channel.sound_onBus hstate hseg).1 hsound
  · rw [hseg]
    rfl
  · exact hending
  · exact hdeferred

theorem Rides.drivesOnBus (h : s.Rides d) (hd : s.bus.drive = d) : s.DrivesOnBus :=
  fun c => hd ▸ (h c).driven_iff

/-- Channel `c` left the bus or was not on it, and no other channel changed. -/
structure OnlyOff (s t : State) (c : ChannelNo) : Prop where
  others : ∀ e, c ≠ e → t.chan e = s.chan e
  off : (t.chan c).state ≠ .onBus

/-! ### What an operation on a channel leaves of its state -/

theorem OnlyOff.of_shape {ch : Channel} {p : MemPort} {l : CompletionLog}
    (h : t = ((s.setChan c ch).setPort p).setLog l) (hoff : (t.chan c).state ≠ .onBus) : OnlyOff s t c := by
  refine ⟨fun e he => ?_, hoff⟩
  rw [h]
  exact chan_setChan_other s c e ch he

theorem OnlyOff.of_portShape {ch : Channel} {p : MemPort} (h : t = (s.setChan c ch).setPort p)
    (hoff : (t.chan c).state ≠ .onBus) : OnlyOff s t c :=
  .of_shape (l := s.log) (p := p) (ch := ch) h hoff

theorem requestRead_state (s : State) (c : ChannelNo) : ((s.requestRead c).chan c).state = (s.chan c).state := by
  unfold State.requestRead
  split
  · rfl
  · simp

theorem readPoint_off (h : (s.chan c).state ≠ .onBus) : ((s.readPoint c).chan c).state ≠ .onBus := by
  unfold State.readPoint
  repeat' split
  · exact h
  · simpa using h
  · rwa [requestRead_state]
  · rwa [requestRead_state]
  · exact h
  · simp

theorem startSegment_off (s : State) (c : ChannelNo) (r : SegmentRecord) (staged : List SegmentRecord) :
    ((s.startSegment c r staged).chan c).state ≠ .onBus :=
  readPoint_off (by simp)

theorem leaveEnding_off (s : State) (c : ChannelNo) (e : EndingRecord) :
    ((s.leaveEnding c e).chan c).state ≠ .onBus := by
  unfold State.leaveEnding State.retire
  repeat' split
  · exact startSegment_off _ _ _ _
  · exact startSegment_off _ _ _ _
  · exact startSegment_off _ _ _ _
  all_goals simp

theorem grantChannel_off (h : (s.chan c).state ≠ .onBus) : ((s.grantChannel c).chan c).state ≠ .onBus := by
  unfold State.grantChannel
  repeat' split
  · exact leaveEnding_off _ _ _
  · simpa using h
  · exact h

theorem offerChannel_off (h : (s.chan c).state ≠ .onBus) : ((s.offer (.channel c)).chan c).state ≠ .onBus := by
  unfold State.offer
  split
  · exact grantChannel_off h
  · exact h

theorem endSegment_off (s : State) (c : ChannelNo) (seg : Segment) (status : SegmentStatus) :
    ((s.endSegment c seg status).chan c).state ≠ .onBus :=
  offerChannel_off (by simp)

theorem readPoint_onlyOff (h : (s.chan c).state ≠ .onBus) : OnlyOff s (s.readPoint c) c := by
  obtain ⟨ch, p, heq⟩ := readPoint_shape s c
  exact .of_portShape heq (readPoint_off h)

theorem startSegment_onlyOff (s : State) (c : ChannelNo) (r : SegmentRecord) (staged : List SegmentRecord) :
    OnlyOff s (s.startSegment c r staged) c := by
  obtain ⟨ch, p, heq⟩ := startSegment_shape s c r staged
  exact .of_portShape heq (startSegment_off s c r staged)

theorem endSegment_onlyOff (s : State) (c : ChannelNo) (seg : Segment) (status : SegmentStatus) :
    OnlyOff s (s.endSegment c seg status) c := by
  obtain ⟨ch, p, l, heq⟩ := endSegment_shape s c seg status
  exact .of_shape heq (endSegment_off s c seg status)

/-- R98 to R103: an ON_BUS channel with a segment leaves the bus with its tenure's outcome. -/
theorem channelOutcome_onlyOff (o : TenureOutcome) (h : (s.chan c).state = .onBus → (s.chan c).current.isSome = true) :
    OnlyOff s (s.channelOutcome c o) c := by
  obtain ⟨ch, p, l, heq⟩ := channelOutcome_shape s c o
  refine .of_shape heq ?_
  unfold State.channelOutcome
  split
  next seg _ _ =>
    have hretry : ((s.retryAtSender c seg).chan c).state ≠ .onBus := by
      unfold State.retryAtSender
      dsimp only
      repeat' split
      · exact endSegment_off _ _ _ _
      · exact endSegment_off _ _ _ _
      · simp
    have hcommit : ((s.commitAtSender c seg).chan c).state ≠ .onBus := by
      unfold State.commitAtSender
      dsimp only
      repeat' split
      · exact endSegment_off _ _ _ _
      · exact endSegment_off _ _ _ _
      · exact readPoint_off (by simp)
    split
    · exact hcommit
    · exact hretry
    · exact hretry
    · exact endSegment_off _ _ _ _
    · exact endSegment_off _ _ _ _
  next hnot =>
    intro hstate
    obtain ⟨seg, hseg⟩ := Option.isSome_iff_exists.1 (h hstate)
    exact hnot seg hstate hseg

theorem channelWithdrawal_onlyOff (h : (s.chan c).state = .onBus → (s.chan c).current.isSome = true) :
    OnlyOff s (s.channelWithdrawal c) c := by
  obtain ⟨ch, p, l, heq⟩ := channelWithdrawal_shape s c
  refine .of_shape heq ?_
  unfold State.channelWithdrawal
  split
  · split
    · exact endSegment_off _ _ _ _
    · simp
  next hnot =>
    intro hstate
    obtain ⟨seg, hseg⟩ := Option.isSome_iff_exists.1 (h hstate)
    exact hnot seg hstate hseg

/-! ### Riding -/

theorem NoneOnBus.rides (h : s.NoneOnBus) (hd : ∀ c, d ≠ .tenure c) : s.Rides d := fun c => .of_off (h c) (hd c)

theorem NoneOnBus.of_eq (h : s.NoneOnBus) (heq : t.channels = s.channels) : t.NoneOnBus := by
  intro c
  rw [State.chan, heq]
  exact h c

namespace Rides

variable (h : s.Rides d)

include h

theorem of_eq (heq : t.channels = s.channels) : t.Rides d := by
  intro c
  rw [State.chan, heq]
  exact h c

theorem noneOnBus (hd : ∀ c, d ≠ .tenure c) : s.NoneOnBus := fun c hstate => hd c ((h c).driven_iff.1 hstate)

/-- The driven channel has left the bus. -/
theorem dismount (hd : d = .tenure c) (hoff : OnlyOff s t c) : t.NoneOnBus := by
  intro e
  by_cases he : c = e
  · subst he
    exact hoff.off
  · rw [hoff.others e he]
    intro hstate
    have hdriven := (h e).driven_iff.1 hstate
    rw [hd] at hdriven
    exact he (Drive.tenure.inj hdriven)

/-- A channel that was not on the bus is still not. -/
theorem stay (hc : (s.chan c).state ≠ .onBus) (hoff : OnlyOff s t c) : t.Rides d := by
  intro e
  by_cases he : c = e
  · subst he
    exact .of_off hoff.off fun hd => hc ((h c).driven_iff.2 hd)
  · rw [hoff.others e he]
    exact h e

theorem setChan_same {x : Channel} (hx : (s.chan c).Rides (d = .tenure c) → x.Rides (d = .tenure c)) :
    (s.setChan c x).Rides d := by
  intro e
  rw [chan_setChan]
  split
  next he => exact he ▸ hx (h c)
  next => exact h e

theorem grant (p : Producer) : (s.grant p).Rides d := by
  cases p with
  | membership =>
    obtain ⟨m, l, heq⟩ := grantMembership_shape s
    exact h.of_eq (t := s.grantMembership) (heq ▸ rfl)
  | window w =>
    obtain ⟨x, l, heq⟩ := grantWindow_shape s w
    exact h.of_eq (t := s.grantWindow w) (heq ▸ rfl)
  | channel c =>
    by_cases hon : (s.chan c).state = .onBus
    · show (s.grantChannel c).Rides d
      unfold State.grantChannel
      rw [(h c).ending hon]
      dsimp only
      split
      · have hplaced : (s.place (.channel c) (.flushed c (s.chan c).flushCount)).Rides d := h.of_eq rfl
        exact hplaced.setChan_same fun hc => hc.of_same rfl id rfl id
      · exact h
    · obtain ⟨ch, p, l, heq⟩ := grantChannel_shape s c
      exact h.stay hon (.of_shape heq (grantChannel_off hon))

theorem offer (p : Producer) : (s.offer p).Rides d := by
  unfold State.offer
  split
  · exact h.grant p
  · exact h

theorem startSegment (hc : (s.chan c).state ≠ .onBus) (r : SegmentRecord) (staged : List SegmentRecord) :
    (s.startSegment c r staged).Rides d := h.stay hc (startSegment_onlyOff s c r staged)

theorem endSegment (hc : (s.chan c).state ≠ .onBus) (seg : Segment) (status : SegmentStatus) :
    (s.endSegment c seg status).Rides d := h.stay hc (endSegment_onlyOff s c seg status)

theorem writerAct : s.writerAct.Rides d := by
  obtain ⟨w, p, heq⟩ := writerAct_shape s
  exact h.of_eq (heq ▸ rfl)

theorem finishAccess : s.finishAccess.Rides d := h.of_eq rfl

/-! ### Host commands -/

theorem push : s.push.1.Rides d := by
  unfold State.push
  dsimp only
  repeat' split
  · exact h
  next hidle => exact h.startSegment (by simp [hidle]) _ _
  · exact h.setChan_same fun hc => hc.of_same rfl id rfl id
  · exact h

theorem stopChannel (c : ChannelNo) : (s.stopChannel c).1.Rides d := by
  unfold State.stopChannel
  split
  next hstate _ => exact h.endSegment (by simp [hstate]) _ _
  next hstate _ => exact h.endSegment (by simp [hstate]) _ _
  · exact h.setChan_same fun hc => hc.of_same rfl (fun _ => rfl) rfl id
  · exact h

theorem resumeChannel (c : ChannelNo) : (s.resumeChannel c).1.Rides d := by
  unfold State.resumeChannel
  split
  next hhalted =>
    have hoff : (s.chan c).state ≠ .onBus := by simp [hhalted]
    split
    · exact h.startSegment hoff _ _
    · exact h.stay hoff ⟨fun e he => chan_setChan_other s c e _ he, by simp⟩
  next => exact h

theorem flushChannel (c : ChannelNo) : (s.flushChannel c).1.Rides d := by
  unfold State.flushChannel
  dsimp only
  split
  · exact h
  · refine Rides.offer ?_ _
    exact h.setChan_same fun hc => hc.of_same rfl id rfl id

theorem openCommand : s.openCommand.1.Rides d := by
  unfold State.openCommand
  repeat' split
  all_goals exact h.of_eq rfl

theorem closeCommand (w : WindowNo) : (s.closeCommand w).1.Rides d := by
  have hdrain : ((s.setWin w { s.win w with state := .closing }).drainTest w).Rides d := by
    obtain ⟨x, heq⟩ := drainTest_shape (s.setWin w { s.win w with state := .closing }) w
    exact h.of_eq (heq ▸ rfl)
  unfold State.closeCommand
  dsimp only
  split
  · exact hdrain.offer _
  · exact hdrain.offer _
  · have hclosed : ((s.setWin w { s.win w with state := .closed }).windowEvent w .closed).Rides d := h.of_eq rfl
    exact hclosed.offer _
  · exact h
  · exact h

theorem consumeCommand (w : WindowNo) : (s.consumeCommand w).1.Rides d := by
  unfold State.consumeCommand
  dsimp only
  repeat' split
  all_goals exact h.of_eq rfl

theorem rearmCommand (w : WindowNo) : (s.rearmCommand w).1.Rides d := by
  unfold State.rearmCommand
  split <;> exact h.of_eq rfl

theorem takeCommand (code : BitVec 8) {act : State → State × Reply} (hact : ∀ {u : State}, u.Rides d → (act u).1.Rides d) :
    Leads (fun t => t.Rides d) (s.takeCommand code act) :=
  leads_takeCommand code (fun _ _ hu => hu.of_eq rfl) h fun _ hu => hact hu

theorem onChannel {act : ChannelNo → State × Reply} (hact : ∀ c, (act c).1.Rides d) : (s.onChannel act).1.Rides d :=
  onChannel_keeps (P := fun t => t.Rides d) h hact

theorem onWindow {act : WindowNo → State × Reply} (hact : ∀ w, (act w).1.Rides d) : (s.onWindow act).1.Rides d :=
  onWindow_keeps (P := fun t => t.Rides d) h hact

/-! ### Completions and PACE -/

theorem execPaceActive (c : ChannelNo) (level : Bool) : Leads (fun t => t.Rides d) (execPaceActive c level s) := by
  have hpaced : (s.setPace (s.pace.set c level)).Rides d := h.of_eq rfl
  unfold Machine.execPaceActive
  dsimp only
  split
  next hwaits =>
    rw [Bool.and_eq_true, Channel.waitsForPace, Bool.and_eq_true, Bool.and_eq_true, beq_iff_eq] at hwaits
    obtain ⟨-, ⟨hstate, -⟩, -⟩ := hwaits
    have hoff : ((s.setPace (s.pace.set c level)).chan c).state ≠ .onBus := by
      rw [hstate]
      simp
    obtain ⟨ch, p, heq⟩ := requestRead_shape (s.setPace (s.pace.set c level)) c
    exact hpaced.stay hoff (.of_portShape heq (by rwa [requestRead_state]))
  next => exact hpaced

omit h in
/-- R92: the channel of a read that is not stale is ASSEMBLING. -/
theorem currentRead_off (c : ChannelNo) {r : ReadRequest} {seg : Segment} (hcurrent : s.currentRead = some (c, r, seg)) :
    (s.chan c).state ≠ .onBus := by
  obtain ⟨-, -, hstale, -⟩ := currentRead_eq_some.1 hcurrent
  rw [(Channel.not_stale_iff.1 hstale).1]
  simp

theorem takeFrame (hc : (s.chan c).state ≠ .onBus) (seg : Segment) (f : HeldFrame) : (s.takeFrame c seg f).Rides d := by
  unfold State.takeFrame
  dsimp only
  split
  · exact h.stay hc ⟨fun e he => chan_setChan_other s c e _ he, by simp⟩
  · refine Rides.stay (c := c) ?_ ?_ (readPoint_onlyOff ?_)
    · exact h.setChan_same fun hr => hr.of_same rfl (fun _ => rfl) rfl id
    · simpa using hc
    · simpa using hc

theorem execFrameReadCompletion (words : List Word) : Leads (fun t => t.Rides d) (execFrameReadCompletion words s) := by
  unfold Machine.execFrameReadCompletion
  repeat' split
  next hcurrent _ => exact (h.takeFrame (currentRead_off _ hcurrent) _ _).finishAccess
  all_goals trivial

theorem execReadFault : Leads (fun t => t.Rides d) (execReadFault s) := by
  unfold Machine.execReadFault
  split
  next c _ seg hcurrent =>
    have hdropped := h.setChan_same (c := c) (x := { s.chan c with readOutstanding := false })
      fun hr => hr.of_same rfl id rfl id
    have hoff := currentRead_off _ hcurrent
    exact (hdropped.endSegment (by simpa using hoff) seg .sourceFault).finishAccess
  · trivial

theorem dropStale (c : ChannelNo) : (s.dropStale c).Rides d := by
  have hdropped := h.setChan_same (c := c) (x := { s.chan c with readOutstanding := false, deferred := false })
    fun hr => hr.of_same rfl id rfl fun _ => rfl
  unfold State.dropStale
  dsimp only
  split
  next hdeferred =>
    have hoff : (s.chan c).state ≠ .onBus := fun hstate => by
      rw [(h c).deferred hstate] at hdeferred
      cases hdeferred
    exact hdropped.stay (by simpa using hoff) (readPoint_onlyOff (by simpa using hoff))
  next => exact hdropped

theorem execStaleReadCompletion : Leads (fun t => t.Rides d) (execStaleReadCompletion s) := by
  unfold Machine.execStaleReadCompletion
  repeat' split
  · exact (h.dropStale _).finishAccess
  all_goals trivial

theorem execLandingWriteCompletion : Leads (fun t => t.Rides d) (execLandingWriteCompletion s) := by
  unfold Machine.execLandingWriteCompletion
  repeat' split
  next f _ _ =>
    obtain ⟨x, hx⟩ := noteTest_shape (s.frameWritten f) f
    obtain ⟨y, hy⟩ := drainTest_shape ((s.frameWritten f).noteTest f) f.window
    have hevents : (((s.frameWritten f).noteTest f).drainTest f.window).Rides d := by
      rw [hy, hx]
      exact h.of_eq rfl
    exact (hevents.offer _).writerAct.finishAccess
  all_goals trivial

theorem execSplitFirstPartCompletion : Leads (fun t => t.Rides d) (execSplitFirstPartCompletion s) := by
  unfold Machine.execSplitFirstPartCompletion
  repeat' split
  · trivial
  · exact h.of_eq rfl
  · trivial

theorem execWriteFault : Leads (fun t => t.Rides d) (execWriteFault s) := by
  unfold Machine.execWriteFault
  split
  next w f _ =>
    have hfaulted : (s.faultWindow f.window (BitVec.ofNat 32 w.addr)).Rides d := by
      rw [faultWindow_eq]
      refine Rides.offer ?_ _
      exact h.of_eq rfl
    exact hfaulted.writerAct.finishAccess
  · trivial

theorem execOrphanCompletion : Leads (fun t => t.Rides d) (execOrphanCompletion s) := by
  unfold Machine.execOrphanCompletion
  split
  · exact h.finishAccess
  · trivial

theorem execQueryChannel : Leads (fun t => t.Rides d) (execQueryChannel s) := by
  unfold Machine.execQueryChannel
  exact h.takeCommand _ fun hu => onChannel_keeps (P := fun t => t.Rides d) hu fun _ => hu

theorem execUnknownCommand (code : BitVec 8) : Leads (fun t => t.Rides d) (execUnknownCommand code s) := by
  unfold Machine.execUnknownCommand
  split
  · trivial
  · exact h.takeCommand code id

theorem popRecord : s.popRecord.Rides d := by
  unfold State.popRecord
  split
  · exact h
  next r rest _ =>
    have hpopped : (s.setLog { s.log with records := rest }).Rides d := h.of_eq rfl
    unfold State.grantFreed
    repeat' split
    · exact hpopped.grant _
    · exact hpopped
    · exact hpopped

theorem execPop (enable : Bool) : Leads (fun t => t.Rides d) (execPop enable s) := by
  have henabled : (s.setEnable enable).Rides d := h.of_eq rfl
  unfold Machine.execPop
  split
  · exact h
  · exact henabled.popRecord

theorem execSetInterruptEnable (enable : Bool) : Leads (fun t => t.Rides d) (execSetInterruptEnable enable s) := by
  unfold Machine.execSetInterruptEnable
  split
  · exact h
  · exact h.of_eq rfl

theorem execRegisterWrite (w : PlainWord) (value : Word) (enables : BitVec 4) :
    Leads (fun t => t.Rides d) (execRegisterWrite w value enables s) := by
  unfold Machine.execRegisterWrite
  repeat' split
  all_goals exact h.of_eq rfl

/-- The commands that leave the station as it was leave the channel ON_BUS there. -/
theorem exec_quiet {i : Instr} (hi : leavesStation i = true) : Leads (fun t => t.Rides d) (exec i s) := by
  cases i with
  | paceActive c level => exact h.execPaceActive c level
  | frameReadCompletion words => exact h.execFrameReadCompletion words
  | readFault => exact h.execReadFault
  | staleReadCompletion => exact h.execStaleReadCompletion
  | landingWriteCompletion => exact h.execLandingWriteCompletion
  | splitFirstPartCompletion => exact h.execSplitFirstPartCompletion
  | writeFault => exact h.execWriteFault
  | orphanCompletion => exact h.execOrphanCompletion
  | push => exact h.takeCommand _ fun hu => hu.push
  | stop => exact h.takeCommand _ fun hu => hu.onChannel hu.stopChannel
  | resume => exact h.takeCommand _ fun hu => hu.onChannel hu.resumeChannel
  | flush => exact h.takeCommand _ fun hu => hu.onChannel hu.flushChannel
  | queryChannel => exact h.execQueryChannel
  | openWindow => exact h.takeCommand _ fun hu => hu.openCommand
  | closeWindow => exact h.takeCommand _ fun hu => hu.onWindow hu.closeCommand
  | consume => exact h.takeCommand _ fun hu => hu.onWindow hu.consumeCommand
  | rearm => exact h.takeCommand _ fun hu => hu.onWindow hu.rearmCommand
  | queryWindow => exact h.takeCommand _ fun hu => hu.onWindow fun w => (queryWindow_state _ w).symm ▸ hu
  | unknownCommand code => exact h.execUnknownCommand code
  | pop enable => exact h.execPop enable
  | setInterruptEnable enable => exact h.execSetInterruptEnable enable
  | registerWrite w value enables => exact h.execRegisterWrite w value enables
  | _ => cases hi

end Rides

end State

end Sys2Proof.Machine

namespace Sys2Proof.Machine

open Answered

theorem Answered.Leads.and {P Q : State → Prop} {a : Answered} (hp : Leads P a) (hq : Leads Q a) :
    Leads (fun t => P t ∧ Q t) a := by
  cases a
  case next => exact ⟨hp, hq⟩
  all_goals trivial

theorem Answered.Leads.mono {P Q : State → Prop} {a : Answered} (hp : Leads P a) (h : ∀ t, P t → Q t) : Leads Q a := by
  cases a
  case next => exact h _ hp
  all_goals trivial

namespace State

variable {s t : State}

/-- Neither a channel nor what is driven changes. -/
theorem DrivesOnBus.of_eq (h : s.DrivesOnBus) (hchannels : t.channels = s.channels) (hdrive : t.bus.drive = s.bus.drive) :
    t.DrivesOnBus := by
  intro c
  rw [State.chan, hchannels, hdrive]
  exact h c

theorem NoneOnBus.drivesOnBus (h : s.NoneOnBus) (hd : ∀ c, s.bus.drive ≠ .tenure c) : s.DrivesOnBus :=
  fun c => iff_of_false (h c) (hd c)

/-- No channel was ON_BUS, and no tenure is driven now. -/
theorem NoneOnBus.drivesNone (h : s.NoneOnBus) (hchannels : t.channels = s.channels)
    (hd : ∀ c, t.bus.drive ≠ .tenure c) : t.DrivesOnBus := (h.of_eq hchannels).drivesOnBus hd

/-! ### The tenure end -/

section

variable (h : s.Rides s.bus.drive)

include h

/-- R20, R98: whatever the outcome, no channel is ON_BUS after it. -/
theorem senderOutcome_noneOnBus (o : TenureOutcome) : (s.senderOutcome o).NoneOnBus := by
  unfold State.senderOutcome
  split
  next c hdrive => exact h.dismount hdrive (channelOutcome_onlyOff o (h c).current)
  all_goals
    next hdrive => exact h.noneOnBus (by simp [hdrive])

theorem takeOutcome_noneOnBus (o : TenureOutcome) : (s.takeOutcome o).NoneOnBus := by
  have hlanding {u : State} (hu : u.NoneOnBus) : (u.landingOutcome o).NoneOnBus := by
    obtain ⟨l, p, log, heq⟩ := landingOutcome_shape u o
    exact hu.of_eq (heq ▸ rfl)
  have hdrawn : s.draw.2.Rides s.draw.2.bus.drive := h.of_eq rfl
  have hlanded : (s.draw.2.landingOutcome o).Rides (s.draw.2.landingOutcome o).bus.drive := by
    obtain ⟨l, p, log, heq⟩ := landingOutcome_shape s.draw.2 o
    rw [heq]
    exact hdrawn.of_eq rfl
  unfold State.takeOutcome
  dsimp only
  repeat' split
  · exact hlanding (senderOutcome_noneOnBus hdrawn o)
  · exact senderOutcome_noneOnBus hlanded o
  · exact hlanding (senderOutcome_noneOnBus h o)

theorem tenureEnd_noneOnBus (o : TenureOutcome) : (s.tenureEnd o).NoneOnBus := by
  have hcounted : s.rotate.countTenure.Rides s.rotate.countTenure.bus.drive := h.of_eq rfl
  exact (takeOutcome_noneOnBus hcounted o).of_eq rfl

theorem tenureEnd_drivesOnBus (o : TenureOutcome) : (s.tenureEnd o).DrivesOnBus := by
  refine (tenureEnd_noneOnBus h o).drivesOnBus ?_
  rw [tenureEnd_bus]
  simp [BusController.endTenure]

end

theorem abandonCensus_channels (s : State) : s.abandonCensus.channels = s.channels := by
  obtain ⟨m, heq⟩ := censusAbandoned_shape s
  unfold State.abandonCensus
  rw [heq]
  rfl

/-! ### The rows of the bus -/

/-- What the rows of the bus start from. -/
structure OnBusFit (s : State) : Prop where
  rides : s.Rides s.bus.drive
  drives : s.DrivesOnBus
  station : s.StationFit
  channels : s.ChannelsSound

namespace OnBusFit

variable (h : s.OnBusFit)

include h

/-- R98: outside a tenure no channel is ON_BUS. -/
theorem noneOnBus (hphase : s.bus.phase ≠ .tenure) : s.NoneOnBus :=
  h.rides.noneOnBus fun c hd => hphase (h.station.bus.tenure c hd)

theorem endedByStartMark_noneOnBus : s.endedByStartMark.NoneOnBus := by
  unfold State.endedByStartMark
  split
  · exact tenureEnd_noneOnBus h.rides _
  next hphase => exact (h.noneOnBus (by simp [hphase])).of_eq s.abandonCensus_channels
  next hphase => exact h.noneOnBus (by simp [hphase])
  next hphase => exact h.noneOnBus (by simp [hphase])

theorem execStartMark : Leads DrivesOnBus (execStartMark s) := by
  unfold Machine.execStartMark
  repeat' split
  · exact h.drives
  · refine NoneOnBus.drivesOnBus (h.endedByStartMark_noneOnBus.of_eq rfl) fun c => ?_
    show (match s.endedByStartMark.activity.claim with | some x => Drive.claim x | none => .nothing) ≠ .tenure c
    split <;> simp
  next hstep =>
    have hsilent := h.station.bus.outOfStep (Bool.eq_false_iff.2 hstep)
    exact (h.noneOnBus (by simp [hsilent])).drivesNone rfl fun c hd => by cases hd

theorem execContestLoss : Leads DrivesOnBus (execContestLoss s) := by
  unfold Machine.execContestLoss
  split
  next hphase _ => exact (h.noneOnBus (by simp [hphase])).drivesNone rfl fun c hd => by cases hd
  · trivial

/-- R95, R98: the channel picked is READY, and becomes the one ON_BUS. -/
theorem sendTenure (hphase : s.bus.phase ≠ .tenure) (b : BusController) : (s.setBus b).sendTenure.DrivesOnBus := by
  have hnone := h.noneOnBus hphase
  unfold State.sendTenure
  split
  next c _ =>
    intro e
    simp only [chan_setBus, chan_setLastSent, setBus_bus, Drive.tenure.injEq]
    rw [chan_setChan]
    split
    next he => exact iff_of_true rfl he
    next he => exact iff_of_false (hnone e) he
  next => exact hnone.drivesNone rfl fun c hd => by cases hd

theorem execClaimCodeEnd (code : BitVec 5) : Leads DrivesOnBus (execClaimCodeEnd code s) := by
  unfold Machine.execClaimCodeEnd
  by_cases hphase : s.bus.phase = .contest
  · rw [if_pos hphase]
    have hnone := h.noneOnBus (by simp [hphase])
    split
    · rw [leads_next]
      unfold State.takeWin
      split
      · exact h.sendTenure (by simp [hphase]) _
      · exact hnone.drivesNone rfl fun c hd => by cases hd
      · exact hnone.drivesNone rfl fun c hd => by cases hd
    · exact h.drives
  · rw [if_neg hphase]
    split
    · trivial
    · exact h.drives

theorem execContestSilence : Leads DrivesOnBus (execContestSilence s) := by
  unfold Machine.execContestSilence
  repeat' split
  next hphase => exact (h.noneOnBus (by simp [hphase])).drivesNone rfl fun c hd => by cases hd
  · trivial
  · exact h.drives

theorem execStepInSilence : Leads DrivesOnBus (execStepInSilence s) := by
  unfold Machine.execStepInSilence
  repeat' split
  · exact h.drives
  · trivial
  · exact h.drives.of_eq rfl rfl

theorem execTenureHeader (w : WireHeader) : Leads DrivesOnBus (execTenureHeader w s) := by
  unfold Machine.execTenureHeader
  repeat' split
  · rw [leads_next]
    unfold State.takeHeader
    dsimp only
    split <;> exact h.drives.of_eq rfl rfl
  · exact h.drives.of_eq rfl rfl
  · trivial
  · exact h.drives

omit h in
theorem landFrame (hdrives : t.DrivesOnBus) (sender : StationId) (f : WireFrame) : (t.landFrame sender f).DrivesOnBus := by
  unfold State.landFrame
  split
  · exact hdrives
  · dsimp only
    split <;> exact hdrives.of_eq rfl rfl

theorem execFrame (f : WireFrame) : Leads DrivesOnBus (execFrame f s) := by
  unfold Machine.execFrame
  repeat' split
  · rw [leads_next]
    unfold State.takeFrameArrival
    dsimp only
    repeat' split
    · refine landFrame ?_ _ _
      exact h.drives.of_eq rfl rfl
    all_goals exact h.drives.of_eq rfl rfl
  · exact h.drives.of_eq rfl rfl
  · exact h.drives.of_eq rfl rfl
  · trivial
  · exact h.drives
  · trivial

theorem execVerdictMark : Leads DrivesOnBus (execVerdictMark s) := by
  unfold Machine.execVerdictMark
  repeat' split
  · exact h.drives.of_eq rfl rfl
  · trivial
  · exact h.drives

theorem execVerdictSample (lines : Lines) : Leads DrivesOnBus (execVerdictSample lines s) := by
  unfold Machine.execVerdictSample
  repeat' split
  · exact tenureEnd_drivesOnBus h.rides _
  · trivial
  · exact h.drives

theorem execTruncation : Leads DrivesOnBus (execTruncation s) := by
  unfold Machine.execTruncation
  repeat' split
  · exact tenureEnd_drivesOnBus h.rides _
  · trivial
  · exact h.drives

/-- R14, R106: the withdrawal takes the channel off the bus. -/
theorem reportWithdrawal {c : ChannelNo} (hdrive : s.bus.drive = .tenure c) {b : BusController} (hb : b.drive = .nothing) :
    ((s.setBus b).reportWithdrawal c).DrivesOnBus := by
  have hwithdrawn {u : State} (hu : u.channels = s.channels) : (u.channelWithdrawal c).NoneOnBus := by
    have hrides : u.Rides s.bus.drive := h.rides.of_eq hu
    exact hrides.dismount hdrive (channelWithdrawal_onlyOff (hrides c).current)
  have hcollided {u : State} (hu : u.NoneOnBus) : u.tenureCollision.NoneOnBus := by
    obtain ⟨m, l, heq⟩ := tenureCollision_shape u
    exact hu.of_eq (heq ▸ rfl)
  have hfirst {u : State} (hu : u.channels = s.channels) : u.tenureCollision.channels = s.channels := by
    obtain ⟨m, l, heq⟩ := tenureCollision_shape u
    rw [heq]
    exact hu
  have hnone : ((s.setBus b).reportWithdrawal c).NoneOnBus := by
    unfold State.reportWithdrawal
    dsimp only
    repeat' split
    · exact hcollided (hwithdrawn rfl)
    · exact hwithdrawn (hfirst rfl)
    · exact hcollided (hwithdrawn rfl)
  have hbus : ((s.setBus b).reportWithdrawal c).bus = b := by
    have hdrawn : (s.setBus b).draw.2.bus = b := rfl
    have hwithdrawal (u : State) : (u.channelWithdrawal c).bus = u.bus := (channelWithdrawal_sameStation u c).bus
    have hcollision (u : State) : u.tenureCollision.bus = u.bus := by
      obtain ⟨m, l, heq⟩ := tenureCollision_shape u
      rw [heq]
      rfl
    unfold State.reportWithdrawal
    dsimp only
    repeat' split
    all_goals simp only [hwithdrawal, hcollision, hdrawn, setBus_bus]
  refine hnone.drivesOnBus fun e => ?_
  rw [hbus, hb]
  simp

theorem execEchoWithdrawal : Leads DrivesOnBus (execEchoWithdrawal s) := by
  unfold Machine.execEchoWithdrawal
  split
  next hdrive _ _ => exact h.reportWithdrawal hdrive rfl
  · trivial

theorem execEchoMismatchTenure : Leads DrivesOnBus (execEchoMismatchTenure s) := by
  unfold Machine.execEchoMismatchTenure
  split
  next c _ hdrive _ =>
    have hrides : (s.setBus { s.bus with drive := .nothing, echoFailed := true, destination := false }).Rides
        s.bus.drive := h.rides.of_eq rfl
    refine (hrides.dismount hdrive (channelOutcome_onlyOff .aborted (hrides c).current)).drivesOnBus fun e => ?_
    rw [(channelOutcome_sameStation _ c .aborted).bus]
    simp
  · trivial

/-! ### The rows of a census -/

/-- In a census, what is driven is no tenure after any of its parts. -/
theorem inCensus (hphase : s.bus.phase = .census) (hchannels : t.channels = s.channels)
    (hd : ∀ c, t.bus.drive = .tenure c → s.bus.drive = .tenure c) : t.DrivesOnBus := by
  refine ((h.noneOnBus (by simp [hphase])).of_eq hchannels).drivesOnBus fun c hc => ?_
  have htenure := h.station.bus.tenure c (hd c hc)
  rw [hphase] at htenure
  cases htenure

theorem execEchoMismatchCensus : Leads DrivesOnBus (execEchoMismatchCensus s) := by
  unfold Machine.execEchoMismatchCensus
  split
  · exact h.drives.of_eq rfl rfl
  next hphase _ _ =>
    split
    · obtain ⟨m, l, heq⟩ := censusCollision_shape (s.setBus { s.bus with drive := .nothing })
      rw [leads_next, heq]
      exact h.inCensus hphase rfl fun c hc => by cases hc
    · trivial
  · trivial

theorem execCensusHeader (w : WireCensusHeader) : Leads DrivesOnBus (execCensusHeader w s) := by
  have hafter (c : ChannelNo) (hc : afterHeader s.bus.drive = .tenure c) : s.bus.drive = .tenure c :=
    (afterHeader_other (.inl ⟨c, hc⟩)).symm.trans hc
  unfold Machine.execCensusHeader
  repeat' split
  next hpoint _ hd _ =>
    obtain ⟨m, heq⟩ := openCensus_shape
      (s.activity.setBus { s.bus with censusHeader := .good, drive := afterHeader s.bus.drive }) hd
    rw [leads_next, heq]
    exact h.inCensus hpoint.1 rfl hafter
  next hpoint _ _ => exact h.inCensus hpoint.1 rfl hafter
  · trivial
  · exact h.drives

theorem execCensusSlotTime : Leads DrivesOnBus (execCensusSlotTime s) := by
  unfold Machine.execCensusSlotTime
  repeat' split
  next hphase _ _ _ _ => exact h.inCensus hphase rfl fun c hc => by cases hc
  · trivial
  · trivial
  · trivial
  · exact h.drives
  · exact h.drives
  · exact h.drives
  · trivial
  · exact h.drives

omit h in
/-- R46, R48, R49: the membership unit follows a slot; channels and what is driven stay. -/
theorem followSlot (hdrives : t.DrivesOnBus) (k : Nat) : (t.followSlot k).DrivesOnBus := by
  unfold State.followSlot
  split
  · exact hdrives
  next r _ =>
    obtain ⟨o, m, l, heq⟩ := endListSlots_shape t r
    dsimp only
    repeat' split
    · exact hdrives.of_eq rfl rfl
    · rw [heq]
      exact hdrives.of_eq rfl rfl
    · exact hdrives.of_eq rfl rfl

theorem execSlotMark : Leads DrivesOnBus (execSlotMark s) := by
  unfold Machine.execSlotMark
  split
  next hpoint =>
    rw [Bool.and_eq_true, beq_iff_eq] at hpoint
    refine followSlot ?_ _
    exact h.inCensus hpoint.2 rfl fun c hc => (afterSlotMark_other (.inl ⟨c, hc⟩)).symm.trans hc
  next => exact h.drives

theorem execListSlotAnswer (a : WireListAnswer) : Leads DrivesOnBus (execListSlotAnswer a s) := by
  unfold Machine.execListSlotAnswer
  repeat' split
  · exact h.drives.of_eq rfl rfl
  · rw [leads_next]
    unfold State.takeListAnswer
    split <;> exact h.drives.of_eq rfl rfl
  · trivial
  · trivial
  · exact h.drives
  · trivial

theorem execJoinSlotAnswer (a : WireJoinAnswer) : Leads DrivesOnBus (execJoinSlotAnswer a s) := by
  unfold Machine.execJoinSlotAnswer
  repeat' split
  · exact h.drives.of_eq rfl rfl
  · rw [leads_next]
    unfold State.takeJoinAnswer
    split <;> exact h.drives.of_eq rfl rfl
  · trivial
  · trivial
  · exact h.drives

theorem execEndMark : Leads DrivesOnBus (execEndMark s) := by
  unfold Machine.execEndMark
  split
  next hpoint =>
    rw [Bool.and_eq_true, beq_iff_eq] at hpoint
    obtain ⟨o, m, l, heq⟩ := censusEnd_shape s.activity
    rw [leads_next, heq]
    exact h.inCensus hpoint.2 rfl fun c hc => by cases hc
  next => exact h.drives

theorem execCensusAbandonSilence : Leads DrivesOnBus (execCensusAbandonSilence s) := by
  unfold Machine.execCensusAbandonSilence
  repeat' split
  next hphase =>
    refine h.inCensus hphase s.abandonCensus_channels fun c hc => ?_
    rw [abandonCensus_bus] at hc
    cases hc
  · trivial
  · exact h.drives

theorem execIdleTimerExpiry : Leads DrivesOnBus (execIdleTimerExpiry s) := by
  unfold Machine.execIdleTimerExpiry
  split
  · exact h.drives.of_eq rfl rfl
  · trivial

theorem execFormationTimerExpiry : Leads DrivesOnBus (execFormationTimerExpiry s) := by
  unfold Machine.execFormationTimerExpiry
  split
  · exact h.drives.of_eq rfl rfl
  · trivial

/-! ### Resets and membership commands -/

omit h in
theorem drivesOnBus_of_reset (hchannels : t.channels = Vector.replicate 4 Channel.reset)
    (hdrive : t.bus.drive = .nothing) : t.DrivesOnBus := by
  intro c
  have hc : t.chan c = Channel.reset := by
    rw [State.chan, hchannels]
    exact Vector.getElem_replicate _
  rw [hc, hdrive]
  exact iff_of_false (by simp [Channel.reset]) (by simp)

theorem execResetReleased (pins : StrapPins) : Leads DrivesOnBus (execResetReleased pins s) := by
  unfold Machine.execResetReleased
  split
  · exact h.drives.of_eq rfl rfl
  · trivial

theorem execStationReset (pins : StrapPins) : Leads DrivesOnBus (execStationReset pins s) := by
  unfold Machine.execStationReset
  split
  · exact h.drives
  · obtain ⟨m, l, heq⟩ := note_shape ((s.clearBlocks.setPort s.port.stationReset).comeUp pins) (.change .reset)
    rw [leads_next, heq]
    exact drivesOnBus_of_reset rfl rfl

omit h in
theorem enterWithNote (hdrives : t.DrivesOnBus) (l : LinkState) (r : Reason) : (t.enterWithNote l r).DrivesOnBus := by
  obtain ⟨m, log, heq⟩ := enterWithNote_shape t l r
  rw [heq]
  exact hdrives.of_eq rfl rfl

omit h in
theorem leaveCommand (hdrives : t.DrivesOnBus) : t.leaveCommand.1.DrivesOnBus := by
  unfold State.leaveCommand
  split
  · exact hdrives.of_eq rfl rfl
  · exact enterWithNote hdrives _ _
  · exact enterWithNote hdrives _ _
  all_goals exact hdrives

omit h in
theorem joinCommand (hdrives : t.DrivesOnBus) : t.joinCommand.1.DrivesOnBus := by
  unfold State.joinCommand
  split
  · exact hdrives.of_eq rfl rfl
  all_goals exact hdrives

/-- R98: the commands that leave the station as it was. -/
theorem exec_quiet {i : Instr} (hi : leavesStation i = true) : Leads DrivesOnBus (exec i s) :=
  ((h.rides.exec_quiet hi).and (exec_sameStation s hi)).mono fun _ ⟨hrides, hsame⟩ =>
    hrides.drivesOnBus (congrArg BusController.drive hsame.bus)

end OnBusFit

end State

open State

/-- R98: after every command the channel ON_BUS is the one whose tenure is driven. -/
theorem exec_drivesOnBus {s : State} (h : s.OnBusFit) (i : Instr) : Leads DrivesOnBus (exec i s) := by
  cases i with
  | startMark => exact h.execStartMark
  | contestLoss => exact h.execContestLoss
  | claimCodeEnd code => exact h.execClaimCodeEnd code
  | contestSilence => exact h.execContestSilence
  | stepInSilence => exact h.execStepInSilence
  | tenureHeader w => exact h.execTenureHeader w
  | frame f => exact h.execFrame f
  | verdictMark => exact h.execVerdictMark
  | verdictSample lines => exact h.execVerdictSample lines
  | truncation => exact h.execTruncation
  | echoWithdrawal => exact h.execEchoWithdrawal
  | echoMismatchTenure => exact h.execEchoMismatchTenure
  | echoMismatchCensus => exact h.execEchoMismatchCensus
  | censusHeader w => exact h.execCensusHeader w
  | censusSlotTime => exact h.execCensusSlotTime
  | slotMark => exact h.execSlotMark
  | listSlotAnswer a => exact h.execListSlotAnswer a
  | joinSlotAnswer a => exact h.execJoinSlotAnswer a
  | endMark => exact h.execEndMark
  | censusAbandonSilence => exact h.execCensusAbandonSilence
  | idleTimerExpiry => exact h.execIdleTimerExpiry
  | formationTimerExpiry => exact h.execFormationTimerExpiry
  | resetAsserted => exact OnBusFit.drivesOnBus_of_reset (t := (s.clearBlocks.setPort _).setMembership _) rfl rfl
  | resetReleased pins => exact h.execResetReleased pins
  | leave =>
    exact leads_takeCommand _ (fun _ _ hu => hu.of_eq rfl rfl) h.drives fun _ hu => OnBusFit.leaveCommand hu
  | join =>
    exact leads_takeCommand _ (fun _ _ hu => hu.of_eq rfl rfl) h.drives fun _ hu => OnBusFit.joinCommand hu
  | stationReset pins => exact h.execStationReset pins
  | _ => exact h.exec_quiet rfl

/-- R1, R4, R6, R20, R21, R36, R40, R41, R45: after every command bus controller and membership unit fit. -/
theorem exec_stationFit {s : State} (h : s.StationFit) (i : Instr) : Leads StationFit (exec i s) := by
  cases i with
  | startMark => exact h.execStartMark
  | contestLoss => exact h.execContestLoss
  | claimCodeEnd code => exact h.execClaimCodeEnd code
  | contestSilence => exact h.execContestSilence
  | stepInSilence => exact h.execStepInSilence
  | tenureHeader w => exact h.execTenureHeader w
  | frame f => exact h.execFrame f
  | verdictMark => exact h.execVerdictMark
  | verdictSample lines => exact h.execVerdictSample lines
  | truncation => exact h.execTruncation
  | echoWithdrawal => exact h.execEchoWithdrawal
  | echoMismatchTenure => exact h.execEchoMismatchTenure
  | echoMismatchCensus => exact h.execEchoMismatchCensus
  | censusHeader w => exact h.execCensusHeader w
  | censusSlotTime => exact h.execCensusSlotTime
  | slotMark => exact h.execSlotMark
  | listSlotAnswer a => exact h.execListSlotAnswer a
  | joinSlotAnswer a => exact h.execJoinSlotAnswer a
  | endMark => exact h.execEndMark
  | censusAbandonSilence => exact h.execCensusAbandonSilence
  | idleTimerExpiry => exact h.execIdleTimerExpiry
  | formationTimerExpiry => exact h.execFormationTimerExpiry
  | resetAsserted => exact StationFit.resetAsserted s
  | resetReleased pins => exact h.execResetReleased pins
  | leave =>
    exact leads_takeCommand _ (fun u x hu => hu.same (u.setCmd_sameStation x)) h fun _ hu => hu.leaveCommand
  | join =>
    exact leads_takeCommand _ (fun u x hu => hu.same (u.setCmd_sameStation x)) h fun _ hu => hu.joinCommand
  | stationReset pins => exact h.execStationReset pins
  | _ => exact (exec_sameStation s rfl).mono fun _ hsame => h.same hsame

/-- What the rows of the bus start from is there again after every command. -/
theorem exec_onBusFit {s : State} (h : s.OnBusFit) (i : Instr) : Leads OnBusFit (exec i s) := by
  have hchannels := exec_channelsFit (channelsSound_iff.1 h.channels) i
  refine ((exec_drivesOnBus h i).and ((exec_stationFit h.station i).and hchannels)).mono fun t ⟨hdrives, hstation, hfit⟩ => ?_
  have hsound := channelsSound_iff.2 hfit
  exact ⟨rides_of_drivesOnBus hdrives hsound, hdrives, hstation, hsound⟩

/-- Settles O57: what fits bus controller and membership unit (`StationFit`) is kept by itself; which channel is ON_BUS
(`DrivesOnBus`) takes the channels' own invariant as well, for the channel a tenure puts there and takes off again. -/
theorem busAndMembershipKept : Obligations.BusAndMembershipKept := by
  intro s t hchannels hbus hmembership hstep
  obtain ⟨hstation, hdrives⟩ := s.busAndMembership_iff.1 ⟨hbus, hmembership⟩
  have hfit : s.OnBusFit := ⟨rides_of_drivesOnBus hdrives hchannels, hdrives, hstation, hchannels⟩
  have hkept : t.OnBusFit :=
    step_keeps (fun _ _ hs => ⟨hs.rides.of_eq rfl, hs.drives.of_eq rfl rfl, hs.station.same (.of_eq rfl rfl rfl rfl),
      channelsSound_iff.2 ((channelsSound_iff.1 hs.channels).of_eq rfl rfl rfl)⟩) (fun i _ hs => exec_onBusFit hs i) hfit hstep
  exact (busAndMembership_iff t).2 ⟨hkept.station, hkept.drives⟩

end Sys2Proof.Machine

namespace Sys2Proof.Machine

open Answered

/-! ## The machine -/

/-- No operation of a command touches the queue of commands (95). -/
theorem pending_kept (q : List Instr) : KeptByBlocks fun t => t.pending = q where
  frame h _ _ _ _ _ hpending := hpending.trans h
  order _ _ h _ := h
  membership _ h _ _ _ := h
  note {s} n h := by
    obtain ⟨m, l, heq⟩ := State.note_shape s n
    rw [heq]
    exact h
  channel _ _ h _ _ _ := h
  start _ _ h _ _ _ := h
  endSegment {s} c seg status h := by
    obtain ⟨ch, p, l, heq⟩ := State.endSegment_shape s c seg status
    rw [heq]
    exact h
  flush {s} c h := by
    obtain ⟨ch, p, l, heq⟩ := State.offerChannel_shape (s.setChan c
      { s.chan c with
        staged := []
        flushCount := min Config.flushCountLimit ((s.chan c).flushCount + (s.chan c).staged.length) }) c
    rw [heq]
    exact h
  landing h heq _ _ := by
    rw [heq]
    exact h
  window {s t} w h heq _ _ _ := by
    obtain ⟨x, l, hoffer⟩ := State.offerWindow_shape t w
    rw [hoffer, heq]
    exact h
  pop {s} h := by
    unfold State.popRecord
    split
    · exact h
    next r rest _ =>
      have hgrant (p : Producer) : ((s.setLog { s.log with records := rest }).grant p).pending = q := by
        cases p with
        | membership =>
          obtain ⟨m, l, heq⟩ := State.grantMembership_shape (s.setLog { s.log with records := rest })
          exact (congrArg State.pending heq).trans h
        | channel c =>
          obtain ⟨ch, p, l, heq⟩ := State.grantChannel_shape (s.setLog { s.log with records := rest }) c
          exact (congrArg State.pending heq).trans h
        | window w =>
          obtain ⟨x, l, heq⟩ := State.grantWindow_shape (s.setLog { s.log with records := rest }) w
          exact (congrArg State.pending heq).trans h
      unfold State.grantFreed
      repeat' split
      · exact hgrant _
      · exact h
      · exact h
  cleared h := h

/-- Settles O1: a step's three cases are those of its definition; no block's operation touches the queue. -/
theorem stepTakesTheFrontCommand : Obligations.StepTakesTheFrontCommand := by
  refine ⟨fun c rest s => rfl, fun c s t hexec => ?_, fun s hempty => ?_⟩
  · exact ((pending_kept s.pending).exec c rfl).of_next hexec
  · unfold step
    rw [hempty]

/-! ## The state under RESET -/

namespace State

theorem reset_chan (c : ChannelNo) : State.reset.chan c = Channel.reset := Vector.getElem_replicate _

theorem reset_win (w : WindowNo) : State.reset.win w = Window.reset := Vector.getElem_replicate _

theorem reset_withinLimits : State.reset.WithinLimits := by
  refine ⟨Nat.zero_le _, Nat.zero_le _, Nat.zero_le _, fun c => ?_, fun w => ?_⟩
  · rw [reset_chan]
    exact ⟨Nat.zero_le _, Nat.zero_le _⟩
  · rw [reset_win]
    exact Nat.zero_le _

theorem reset_noIdleWaiter : State.reset.NoIdleWaiter := by
  intro _ p
  cases p with
  | membership => rfl
  | channel c =>
    show ((State.reset.chan c).ending.isSome || decide (0 < (State.reset.chan c).flushCount)) = false
    rw [reset_chan]
    rfl
  | window w =>
    show (State.reset.win w).note.isSome = false
    rw [reset_win]
    rfl

theorem reset_stationFit : State.reset.StationFit :=
  ⟨fun _ => rfl, StationFit.reset_sound, ⟨fun hi => (by rcases hi with hi | hi <;> cases hi),
    fun hi => (by rcases hi with hi | hi <;> cases hi), fun hj => (by cases hj)⟩,
    fun hl => (by rcases hl with hl | hl <;> cases hl), fun hsome => (by cases hsome)⟩

/-- R134, R148: the landing unit under RESET holds no frame, no vote and no write, and every window is CLOSED. -/
theorem reset_landingSound : State.reset.LandingSound := by
  have hnoWrite (w : WriteRequest) : ¬ State.reset.port.HoldsWrite w := by
    rintro (hw | ⟨hw, -⟩) <;> cases hw
  refine ⟨⟨Nat.zero_le _, fun f hf => (by cases hf), fun f hf => (by cases hf), .nil⟩, ⟨rfl, hnoWrite⟩,
    ⟨fun hbusy => absurd rfl hbusy, fun ⟨hw, _⟩ => (by cases hw)⟩, fun v hv => (by cases hv), fun f hf => (by cases hf),
    fun w => ⟨?_, ?_, ?_, fun _ => rfl⟩⟩
  · intro _ hopen
    rw [reset_win] at hopen
    rcases hopen with hopen | hopen | hopen <;> cases hopen
  · rw [reset_win]
    refine ⟨fun hfull => (by cases hfull), fun _ hopen => ?_⟩
    rcases hopen with hopen | hopen | hopen <;> cases hopen
  · rw [reset_win]
    intro hring
    cases hring

theorem reset_sound : State.reset.Sound := by
  obtain ⟨hbus, hmembership⟩ :=
    (busAndMembership_iff State.reset).2 ⟨reset_stationFit, OnBusFit.drivesOnBus_of_reset rfl rfl⟩
  exact ⟨reset_withinLimits, ⟨wellFormedList_nil, fun r hr => (by cases hr)⟩, reset_noIdleWaiter, hbus, hmembership,
    channelsSound_iff.2 (channelsFit_of_reset rfl rfl rfl rfl), reset_landingSound⟩

end State

/-- Settles O2: the values are those of the block resets; soundness block by block. -/
theorem resetState : Obligations.ResetState := by
  have hchan := State.reset_chan
  have hwin := State.reset_win
  refine ⟨rfl, rfl, rfl, rfl, rfl, rfl, rfl, rfl, rfl, rfl, rfl, rfl, rfl, rfl, rfl, rfl, rfl, rfl, rfl, fun c => ?_, rfl,
    fun w => ?_, rfl, rfl, rfl, rfl, rfl, rfl, fun c => Vector.getElem_replicate _, rfl, rfl, rfl, rfl, rfl, rfl, rfl, rfl, rfl,
    State.reset_sound⟩
  · rw [hchan]
    exact ⟨rfl, rfl, rfl, rfl, rfl, rfl, rfl, rfl⟩
  · rw [hwin]
    exact ⟨rfl, rfl, rfl, rfl, rfl, rfl, rfl, rfl, rfl, rfl, rfl, rfl, rfl⟩

end Sys2Proof.Machine

namespace Sys2Proof.Machine

/-! ## Contests and stepping in -/

namespace State

theorem follows_iff (s : State) : s.follows = true ↔ s.Hears := by
  simp [State.follows, State.Hears]

theorem Hears.follows {s : State} (h : s.Hears) : s.follows = true := (follows_iff s).2 h

/-- R3, R4: with the station's claim in one term. -/
theorem openContest_eq (s : State) :
    s.openContest = s.setBus { s.bus with phase := .contest, winningCode := none, drive := s.claim.elim .nothing .claim } := by
  unfold State.openContest
  cases s.claim <;> rfl

theorem endedByStartMark_of_quiet {s : State} (h : s.bus.phase = .silent ∨ s.bus.phase = .contest) :
    s.endedByStartMark = s := by
  unfold State.endedByStartMark
  rcases h with h | h <;> rw [h]

theorem endedByStartMark_of_tenure {s : State} (h : s.bus.phase = .tenure) : s.endedByStartMark = s.tenureEnd .aborted := by
  unfold State.endedByStartMark
  rw [h]

theorem endedByStartMark_of_census {s : State} (h : s.bus.phase = .census) : s.endedByStartMark = s.abandonCensus := by
  unfold State.endedByStartMark
  rw [h]

theorem tenureEnd_hears {s : State} (h : s.Hears) (o : TenureOutcome) : (s.tenureEnd o).Hears := by
  obtain ⟨chs, land, p, l, n, heq⟩ := tenureEnd_shape s o
  rw [heq]
  exact h

theorem abandonCensus_hears {s : State} (h : s.Hears) : s.abandonCensus.Hears := by
  refine ⟨(congrArg BusController.inStep s.abandonCensus_bus).trans h.1, ?_⟩
  unfold State.abandonCensus State.censusAbandoned
  dsimp only
  split
  · exact fun hdown => by cases hdown
  · exact h.2

end State

open State

/-- R1, R3, R23: a start mark at a station in step ends what is in progress, and a contest opens. -/
theorem exec_startMark_of_hears {s : State} (h : s.Hears) :
    exec .startMark s = .next s.endedByStartMark.activity.openContest :=
  (if_neg h.2).trans (if_pos h.1)

/-- Settles O3: after what a start mark ends, the phase is SILENT, where nothing is left to end. -/
theorem startMarkOpensContest : Obligations.StartMarkOpensContest := by
  intro s h
  have hsilent {t : State} (ht : t.Hears) (hphase : t.bus.phase = .silent) (heq : s.endedByStartMark = t) :
      exec .startMark s = exec .startMark t ∧ t.Hears ∧ t.bus.phase = .silent := by
    rw [exec_startMark_of_hears h, exec_startMark_of_hears ht, heq, endedByStartMark_of_quiet (.inl hphase)]
    exact ⟨rfl, ht, hphase⟩
  refine ⟨fun hquiet => ?_, fun htenure => ?_, fun hcensus => ?_⟩
  · rw [exec_startMark_of_hears h, endedByStartMark_of_quiet hquiet, openContest_eq, claim_activity]
    rfl
  · exact hsilent (tenureEnd_hears h _) (congrArg BusController.phase (s.tenureEnd_bus _)) (endedByStartMark_of_tenure htenure)
  · exact hsilent (abandonCensus_hears h) (congrArg BusController.phase s.abandonCensus_bus)
      (endedByStartMark_of_census hcensus)

/-! ### What a station does not hear -/

section

variable {s : State} (h : s.follows = false)

include h

theorem exec_frame_of_deaf {f : WireFrame} (hf : f.wellFormed = true) : exec (.frame f) s = .next s := by
  show execFrame f s = .next s
  rw [execFrame, if_pos hf, if_neg (by simp [h])]

theorem exec_listSlotAnswer_of_deaf {a : WireListAnswer} (ha : a.wellFormed = true) :
    exec (.listSlotAnswer a) s = .next s := by
  show execListSlotAnswer a s = .next s
  rw [execListSlotAnswer, if_pos ha, if_neg (by simp [h])]

/-- R1, R2: no arrival and no silence reaches a station out of step or DOWN. -/
theorem exec_of_deaf :
    (∀ code, exec (.claimCodeEnd code) s = .next s) ∧ exec .contestSilence s = .next s ∧
      (∀ w, exec (.tenureHeader w) s = .next s) ∧ (∀ f, f.wellFormed = true → exec (.frame f) s = .next s) ∧
      exec .verdictMark s = .next s ∧ (∀ l, exec (.verdictSample l) s = .next s) ∧ exec .truncation s = .next s ∧
      (∀ w, exec (.censusHeader w) s = .next s) ∧ exec .censusSlotTime s = .next s ∧ exec .slotMark s = .next s ∧
      (∀ a, a.wellFormed = true → exec (.listSlotAnswer a) s = .next s) ∧
      (∀ a, exec (.joinSlotAnswer a) s = .next s) ∧ exec .endMark s = .next s ∧
      exec .censusAbandonSilence s = .next s := by
  have hno : ¬ s.follows = true := by simp [h]
  have hnever (b : Bool) : ¬ (s.follows && b) = true := by simp [h]
  exact ⟨fun _ => if_neg hno, if_neg hno, fun _ => if_neg hno, fun _ => exec_frame_of_deaf h, if_neg (hnever _),
    fun _ => if_neg hno, if_neg hno, fun _ => if_neg hno, if_neg hno, if_neg (hnever _),
    fun _ => exec_listSlotAnswer_of_deaf h, fun _ => if_neg hno, if_neg (hnever _), if_neg hno⟩

end

/-- Settles O4: each row's definition asks first whether the station is in step, and not DOWN; the marks next whether
their phase is on. -/
theorem steppingInAndIgnoredArrivals : Obligations.SteppingInAndIgnoredArrivals := by
  refine ⟨fun s hstep hup => ⟨?_, ?_⟩, fun s h => exec_of_deaf h, fun s hdown => ⟨if_pos hdown, if_pos hdown⟩,
    fun s hphase => ⟨fun f hf => ?_, ?_⟩, fun s hphase => ⟨?_, ?_⟩⟩
  · exact (if_neg hup).trans (if_neg (by simp [hstep]))
  · exact (if_neg hup).trans (if_neg (by simp [hstep]))
  · show execFrame f s = .next s
    rw [execFrame, if_pos hf, if_neg (by simp [hphase])]
  · exact if_neg (by simp [hphase])
  · exact if_neg (by simp [hphase])
  · exact if_neg (by simp [hphase])

/-! ## Claims -/

namespace State

theorem wantsTenure_iff (s : State) :
    s.wantsTenure = true ↔
      s.membership.link = .member ∧ s.ownRank.isSome = true ∧ s.bus.inStep = true ∧ ∃ c, (s.chan c).state = .ready := by
  have hany : allChannels.any s.isReady = true ↔ ∃ c, (s.chan c).state = .ready := by
    rw [List.any_eq_true]
    have hall (c : ChannelNo) : c ∈ allChannels := by
      revert c
      decide
    simp [hall, State.isReady]
  rw [State.wantsTenure, Bool.and_eq_true, Bool.and_eq_true, Bool.and_eq_true, beq_iff_eq, hany, and_assoc, and_assoc]

theorem wantsCensus_of_placed {s : State} (h : s.membership.link = .member ∨ s.membership.link = .leaving) :
    s.wantsCensus = true ↔
      (intervalTenures s.membership.interval ≤ s.membership.tenureCounter ∧ s.ownRank = some 0) ∨
        intervalTenures s.membership.interval + 16 ≤ s.membership.tenureCounter ∨ s.membership.idleWant = true := by
  have hgrace : Config.graceTenures = 16 := rfl
  rcases h with h | h <;> simp only [State.wantsCensus, h, Bool.or_eq_true, Bool.and_eq_true, decide_eq_true_eq, beq_iff_eq, or_assoc,
    hgrace]

theorem claim_of_census {s : State} (h : s.wantsCensus = true) :
    s.claim = some (.census (s.membership.link == .listening)) := if_pos h

theorem claim_of_tenure {s : State} (hcensus : s.wantsCensus = false) (htenure : s.wantsTenure = true) :
    s.claim = s.ownRank.map .tenure := by
  rw [State.claim, if_neg (by simp [hcensus]), if_pos htenure]

theorem claim_of_neither {s : State} (hcensus : s.wantsCensus = false) (htenure : s.wantsTenure = false) :
    s.claim = none := by
  rw [State.claim, if_neg (by simp [hcensus]), if_neg (by simp [htenure])]

/-- R3: a station that wants a tenure has a rank to claim it with. -/
theorem claim_isSome_iff (s : State) : s.claim.isSome = true ↔ s.wantsCensus = true ∨ s.wantsTenure = true := by
  cases hcensus : s.wantsCensus
  · cases htenure : s.wantsTenure
    · simp [claim_of_neither hcensus htenure]
    · obtain ⟨-, hrank, -⟩ := s.wantsTenure_iff.1 htenure
      simpa [claim_of_tenure hcensus htenure] using hrank
  · simp [claim_of_census hcensus]

end State

theorem claimCode_census_toNat (id : StationId) (formation : Bool) :
    (claimCode id (.census formation)).toNat = id.val := by
  rw [claimCode, BitVec.toNat_ofNat]
  exact Nat.mod_eq_of_lt (Nat.lt_trans id.isLt (by decide))

theorem claimCode_tenure_toNat (id : StationId) {rank : Nat} (h : rank < 16) :
    (claimCode id (.tenure rank)).toNat = 16 + rank := by
  rw [claimCode, BitVec.toNat_ofNat]
  exact Nat.mod_eq_of_lt (by omega)

/-- Settles O5. -/
theorem claimOfAContender : Obligations.ClaimOfAContender := by
  refine ⟨rfl, fun s => ⟨s.wantsTenure_iff, wantsCensus_of_placed, fun h => ?_, fun h => ?_, claim_of_census,
    claim_of_tenure, claim_of_neither⟩, claimCode_census_toNat, fun id rank h => claimCode_tenure_toNat id h⟩
  · rw [State.wantsCensus, h]
  · rcases h with h | h | h <;> rw [State.wantsCensus, h]

end Sys2Proof.Machine

namespace Sys2Proof.Machine

open State

/-! ## The end of the claim code -/

namespace State

theorem claimCodeSent_of_claim {s : State} {claim : Claim} (h : s.bus.drive = .claim claim) :
    s.claimCodeSent = some (claimCode s.straps.id claim) := by
  rw [State.claimCodeSent, h]

theorem claimCodeSent_eq_none {s : State} (h : ∀ claim, s.bus.drive ≠ .claim claim) : s.claimCodeSent = none := by
  unfold State.claimCodeSent
  split
  next claim hdrive => exact absurd hdrive (h claim)
  all_goals rfl

theorem headerSent_of_tenure {s : State} {c : ChannelNo} {seg : Segment} (hdrive : s.bus.drive = .tenure c)
    (hseg : (s.chan c).current = some seg) :
    s.headerSent = some
      (sealHeader s.straps.id c (Fin.ofNat 8 ((s.chan c).buffer.length - 1)) (Fin.ofNat 32 (destCode seg.record.dest))
        seg.record.window) := by
  rw [State.headerSent, hdrive]
  dsimp only
  rw [hseg]
  rfl

theorem framesSent_of_tenure {s : State} {c : ChannelNo} (hdrive : s.bus.drive = .tenure c) :
    s.framesSent = framesFrom 0 (s.chan c).buffer := by
  rw [State.framesSent, hdrive]

theorem nothingSent {s : State} (h : ∀ c, s.bus.drive ≠ .tenure c) : s.headerSent = none ∧ s.framesSent = [] := by
  unfold State.headerSent State.framesSent
  cases hdrive : s.bus.drive with
  | tenure c => exact absurd hdrive (h c)
  | nothing => exact ⟨rfl, rfl⟩
  | claim _ => exact ⟨rfl, rfl⟩
  | census _ _ => exact ⟨rfl, rfl⟩

theorem censusHeaderSent_of_header {s : State} {h : CensusHeader} (hdrive : s.bus.drive = .census h .header) :
    s.censusHeaderSent = some (sealCensusHeader h.claimant (Fin.ofNat 32 h.slots) h.mode h.interval) := by
  rw [State.censusHeaderSent, hdrive]

theorem censusHeaderSent_eq_none {s : State} (h : ∀ hd, s.bus.drive ≠ .census hd .header) :
    s.censusHeaderSent = none := by
  unfold State.censusHeaderSent
  split
  next hd hdrive => exact absurd hdrive (h hd)
  all_goals rfl

theorem beginsStartMark_iff (s : State) :
    s.beginsStartMark = true ↔
      s.bus.inStep = true ∧ s.membership.link ≠ .down ∧ s.bus.phase = .silent ∧
        (s.wantsCensus = true ∨ s.wantsTenure = true) := by
  rw [State.beginsStartMark, Bool.and_eq_true, Bool.and_eq_true, follows_iff, beq_iff_eq, claim_isSome_iff, State.Hears,
    and_assoc, and_assoc]

/-- R5: a station that did not drive the code to its end has won nothing with it. -/
theorem wonClaim_of_other {s : State} {code : BitVec 5} (h : s.claimCodeSent ≠ some code) : s.wonClaim code = none := by
  unfold State.wonClaim
  split
  next claim hdrive =>
    rw [claimCodeSent_of_claim hdrive] at h
    exact if_neg fun heq => h (congrArg some heq)
  all_goals rfl

theorem wonClaim_of_same {s : State} {code : BitVec 5} {claim : Claim} (hdrive : s.bus.drive = .claim claim)
    (hcode : claimCode s.straps.id claim = code) : s.wonClaim code = some claim := by
  rw [State.wonClaim, hdrive]
  exact if_pos hcode

theorem takeWin_none (s : State) (tenureWon : Bool) : s.takeWin tenureWon none = s.setBus { s.bus with drive := .nothing } := by
  cases tenureWon <;> rfl

theorem ownCensusHeader_eq (s : State) (formation : Bool) :
    s.ownCensusHeader formation =
      { claimant := s.straps.id
        slots := if formation then 0 else s.memberCount
        mode := if formation then s.straps.mode else s.membership.mode
        interval := if formation then s.straps.interval else s.membership.interval } := by
  cases formation <;> rfl

end State

/-- R1, R5, R6: at the end of the claim code every station records it, and the winner takes its win. -/
theorem exec_claimCodeEnd_of_contest {s : State} (h : s.Hears) (hphase : s.bus.phase = .contest) (code : BitVec 5) :
    exec (.claimCodeEnd code) s = .next
      ((s.setBus { s.bus with phase := if code.msb then .tenure else .census, winningCode := some code }).takeWin
        code.msb (s.wonClaim code)) :=
  (if_pos h.follows).trans (if_pos hphase)

theorem msb_of_tenure_code {code : BitVec 5} {rank : Nat} (h : code.toNat = 16 + rank) : code.msb = true := by
  rw [BitVec.msb_eq_decide, h]
  exact decide_eq_true (by omega)

theorem msb_of_census_code {code : BitVec 5} {id : StationId} (h : code.toNat = id.val) : code.msb = false := by
  rw [BitVec.msb_eq_decide, h]
  exact decide_eq_false (by omega)

theorem framesFrom_length (i : Nat) (frames : List HeldFrame) : (framesFrom i frames).length = frames.length := by
  induction frames generalizing i with
  | nil => rfl
  | cons f rest ih => exact congrArg (· + 1) (ih (i + 1))

theorem framesFrom_getElem? (i j : Nat) (frames : List HeldFrame) :
    (framesFrom i frames)[j]? = frames[j]?.map (frameSent (i + j)) := by
  induction frames generalizing i j with
  | nil => rfl
  | cons f rest ih =>
    cases j with
    | zero => rfl
    | succ j =>
      rw [framesFrom, List.getElem?_cons_succ, List.getElem?_cons_succ, ih, Nat.add_right_comm]
      rfl

/-- Settles O7. -/
theorem claimCodeEnd : Obligations.ClaimCodeEnd := by
  refine ⟨beginsStartMark_iff, fun s code h hphase => ⟨fun hother => ?_, fun rank hrank hdrive hcode => ?_,
    fun formation hdrive hcode => ?_⟩, fun s c seg hdrive hseg hsome hfew => ⟨?_, ?_, fun i f hf => ?_⟩,
    fun s => nothingSent, fun s claim => claimCodeSent_of_claim, fun s => claimCodeSent_eq_none,
    fun s hd hdrive hslots => ?_, fun s => censusHeaderSent_eq_none⟩
  · rw [exec_claimCodeEnd_of_contest h hphase, wonClaim_of_other hother, takeWin_none]
    rfl
  · have hcodes : claimCode s.straps.id (.tenure rank) = code :=
      BitVec.eq_of_toNat_eq ((claimCode_tenure_toNat _ hrank).trans hcode.symm)
    have hsent : exec (.claimCodeEnd code) s = .next
        (s.setBus { s.bus with phase := .tenure, winningCode := some code }).sendTenure := by
      rw [exec_claimCodeEnd_of_contest h hphase, wonClaim_of_same hdrive hcodes, msb_of_tenure_code hcode]
      rfl
    have hpick : (s.setBus { s.bus with phase := .tenure, winningCode := some code }).turnPick = s.turnPick := rfl
    refine ⟨fun c hc => ?_, fun hnone => ?_⟩
    · rw [hsent, State.sendTenure, hpick, hc]
      rfl
    · rw [hsent, State.sendTenure, hpick, hnone]
      rfl
  · have hcodes : claimCode s.straps.id (.census formation) = code :=
      BitVec.eq_of_toNat_eq ((claimCode_census_toNat _ _).trans hcode.symm)
    rw [exec_claimCodeEnd_of_contest h hphase, wonClaim_of_same hdrive hcodes, msb_of_census_code hcode,
      ← ownCensusHeader_eq]
    rfl
  · have hcount : (s.chan c).buffer.length - 1 < 8 := by omega
    refine ⟨_, headerSent_of_tenure hdrive hseg, rfl, rfl, ?_, fun id hid => ?_, fun hall => ?_, rfl, rfl⟩
    · show ((s.chan c).buffer.length - 1) % 8 + 1 = _
      rw [Nat.mod_eq_of_lt hcount]
      omega
    · show destCode seg.record.dest % 32 = id.val
      rw [hid]
      exact Nat.mod_eq_of_lt (Nat.lt_trans id.isLt (by decide))
    · show destCode seg.record.dest % 32 = 31
      rw [hall]
      rfl
  · rw [framesSent_of_tenure hdrive, framesFrom_length]
  · obtain ⟨hi, -⟩ := List.getElem?_eq_some_iff.1 hf
    refine ⟨frameSent i f, ?_, Nat.mod_eq_of_lt (by omega), rfl, rfl, rfl, fun hnone => ?_, fun o ho hlt => ?_⟩
    · rw [framesSent_of_tenure hdrive, framesFrom_getElem?, hf, Nat.zero_add]
      rfl
    · show f.offset.map (BitVec.ofNat 20) = none
      rw [hnone]
      rfl
    · refine ⟨BitVec.ofNat 20 o, ?_, ?_⟩
      · show f.offset.map (BitVec.ofNat 20) = _
        rw [ho]
        rfl
      · rw [BitVec.toNat_ofNat, Nat.mod_eq_of_lt hlt]
  · exact ⟨_, censusHeaderSent_of_header hdrive, rfl, Nat.mod_eq_of_lt (by omega), rfl, rfl, rfl⟩

/-! ## The turn picker -/

namespace State

variable {s t : State}

theorem isReady_iff (s : State) (c : ChannelNo) : s.isReady c = true ↔ (s.chan c).state = .ready := by
  rw [State.isReady, beq_iff_eq]

theorem turnPick_eq_some_iff (s : State) (c : ChannelNo) :
    s.turnPick = some c ↔
      (s.chan c).state = .ready ∧
        ∀ d : ChannelNo, (s.chan d).state = .ready → channelDistance s.lastSent c ≤ channelDistance s.lastSent d := by
  rw [State.turnPick, find?_channelsAfter]
  simp only [isReady_iff]

theorem turnPick_eq_none_iff (s : State) : s.turnPick = none ↔ ∀ d : ChannelNo, (s.chan d).state ≠ .ready := by
  rw [State.turnPick, List.find?_eq_none]
  simp only [isReady_iff]
  exact ⟨fun h d => h d (mem_channelsAfter _ d), fun h d _ => h d⟩

theorem sendTenure_drive {c : ChannelNo} (h : s.sendTenure.bus.drive = .tenure c) : s.turnPick = some c := by
  unfold State.sendTenure at h
  split at h
  next d hpick => rw [hpick, Drive.tenure.inj h]
  next => cases h

theorem takeWin_drive {tenureWon : Bool} {won : Option Claim} {c : ChannelNo}
    (h : (s.takeWin tenureWon won).bus.drive = .tenure c) : s.turnPick = some c := by
  unfold State.takeWin at h
  split at h
  · exact sendTenure_drive h
  · cases h
  · cases h

end State

/-- Settles O8. -/
theorem turnPickerOrder : Obligations.TurnPickerOrder := by
  refine ⟨turnPick_eq_some_iff, turnPick_eq_none_iff, fun s t code c h hexec hdrive => ?_⟩
  by_cases hphase : s.bus.phase = .contest
  · rw [exec_claimCodeEnd_of_contest h hphase] at hexec
    cases hexec
    have hpick := takeWin_drive hdrive
    exact hpick
  · have hfault : exec (.claimCodeEnd code) s = .fault .notAtThisPoint := (if_pos h.follows).trans (if_neg hphase)
    rw [hfault] at hexec
    cases hexec

end Sys2Proof.Machine

namespace Sys2Proof.Machine

open State

/-! ## Bits, the check and the tenure header -/

theorem check16_append (bits : List Bool) (b : Bool) : check16 (bits ++ [b]) = checkStep (check16 bits) b := by
  rw [check16, check16, List.foldl_append]
  rfl

theorem checkStep_of_eq {r : BitVec 16} {b : Bool} (h : r.msb = b) : checkStep r b = r <<< 1 := by
  rw [checkStep, h, Bool.xor_self]
  rfl

theorem checkStep_of_ne {r : BitVec 16} {b : Bool} (h : r.msb ≠ b) :
    checkStep r b = (r <<< 1) ^^^ BitVec.ofNat 16 (2 ^ 12 + 2 ^ 5 + 2 ^ 0) := by
  have hxor : (r.msb ^^ b) = true := by simpa using h
  rw [checkStep, hxor]
  rfl

theorem bitsOf_length (n v : Nat) : (bitsOf n v).length = n := by
  rw [bitsOf, List.length_map, List.length_range]

theorem bitsOf_getElem? {n i : Nat} (v : Nat) (h : i < n) : (bitsOf n v)[i]? = some (v.testBit (n - 1 - i)) := by
  rw [bitsOf, List.getElem?_map, List.getElem?_range h]
  rfl

theorem wireFrameBits_of_none {f : WireFrame} (h : f.offset = none) :
    wireFrameBits f =
      bitsOf 3 f.index.val ++ [false] ++
        (bitsOf 6 (f.payload.length - 1) ++ [f.last] ++ f.payload.flatMap fun b => bitsOf 8 b.toNat) := by
  rw [wireFrameBits, h]
  simp only [payloadBits, List.append_assoc]

theorem wireFrameBits_of_some {f : WireFrame} {o : BitVec 20} (h : f.offset = some o) :
    wireFrameBits f =
      bitsOf 3 f.index.val ++ [true] ++ bitsOf 20 o.toNat ++
        (bitsOf 6 (f.payload.length - 1) ++ [f.last] ++ f.payload.flatMap fun b => bitsOf 8 b.toNat) := by
  rw [wireFrameBits, h]
  simp only [payloadBits, List.append_assoc, List.cons_append, List.nil_append]

theorem destOfCode_eq_some_iff (v : Nat) (d : Destination) :
    destOfCode v = some d ↔ (∃ id : StationId, v = id.val ∧ d = .station id) ∨ (v = 31 ∧ d = .all) := by
  unfold destOfCode
  split
  next hlt =>
    rw [Option.some.injEq]
    constructor
    · rintro rfl
      exact .inl ⟨⟨v, hlt⟩, rfl, rfl⟩
    · rintro (⟨id, rfl, rfl⟩ | ⟨rfl, -⟩)
      · rfl
      · omega
  next hge =>
    split
    next h31 =>
      rw [Option.some.injEq]
      constructor
      · rintro rfl
        exact .inr ⟨h31, rfl⟩
      · rintro (⟨id, rfl, -⟩ | ⟨-, rfl⟩)
        · exact absurd id.isLt hge
        · rfl
    next h31 =>
      refine iff_of_false (by simp) ?_
      rintro (⟨id, rfl, -⟩ | ⟨h, -⟩)
      · exact hge id.isLt
      · exact h31 h

theorem goodHeader_eq_some_iff (w : WireHeader) (h : Header) :
    goodHeader w = some h ↔
      check16 (wireHeaderBits w) = w.check ∧ h.sender = w.sender ∧ h.channel = w.channel ∧
        h.frameCount = w.countField.val + 1 ∧ h.window = w.window ∧
        ((∃ id : StationId, w.destField.val = id.val ∧ h.dest = .station id) ∨
          (w.destField.val = 31 ∧ h.dest = .all)) := by
  rw [← destOfCode_eq_some_iff]
  unfold goodHeader
  split
  next hcheck =>
    rw [Option.map_eq_some_iff]
    constructor
    · rintro ⟨d, hd, rfl⟩
      exact ⟨hcheck, rfl, rfl, rfl, rfl, hd⟩
    · rintro ⟨-, hsender, hchannel, hcount, hwindow, hdest⟩
      refine ⟨h.dest, hdest, ?_⟩
      rw [← hsender, ← hchannel, ← hcount, ← hwindow]
  next hcheck => exact iff_of_false (by simp) fun hgood => hcheck hgood.1

namespace State

theorem disagrees_iff (s : State) (sender : StationId) :
    s.disagrees sender = true ↔ ∃ r, s.contestRank = some r ∧ ∀ e, s.order.list[r]? = some e → e.id ≠ sender := by
  unfold State.disagrees
  split
  next hnone => simp [hnone]
  next r hr =>
    split
    next e he => simp [hr, he]
    next hnone => simp [hr, hnone]

theorem isDestination_iff (s : State) (h : Header) :
    s.isDestination h = true ↔
      (s.membership.link = .member ∨ s.membership.link = .leaving) ∧ s.bus.echoFailed = false ∧
        (h.dest = .station s.straps.id ∨ (h.dest = .all ∧ h.sender ≠ s.straps.id)) := by
  unfold State.isDestination
  rw [Bool.and_eq_true, Bool.and_eq_true, Bool.or_eq_true, beq_iff_eq, beq_iff_eq, Bool.not_eq_true', and_assoc]
  cases hdest : h.dest <;> simp

theorem takeHeader_eq (s : State) (h : Header) :
    s.takeHeader h =
      { s with
        order := { s.order with disagree := s.order.disagree || s.disagrees h.sender }
        bus := { s.bus with header := .good h, framesReceived := 0, destination := s.isDestination h }
        landing :=
          if s.isDestination h then
            { s.landing with
              vote := some { window := h.window, sender := h.sender, running := .accept, accepted := 0,
                             tenure := freshTenure s.landing.queue } }
          else s.landing } := by
  unfold State.takeHeader
  cases s.isDestination h <;> rfl

theorem isDestination_activity (s : State) (h : Header) : s.activity.isDestination h = s.isDestination h := by
  rw [Bool.eq_iff_iff, isDestination_iff, isDestination_iff, activity_eq, setMembership_membership, activity_link]
  rfl

end State

/-- R136: the tenure number of a new vote is above that of every frame queued. -/
theorem lt_freshTenure (queue : List QueuedFrame) {f : QueuedFrame} (hf : f ∈ queue) : f.tenure < freshTenure queue := by
  have hmax (l : List Nat) (a : Nat) : a ≤ l.foldl max a ∧ ∀ n ∈ l, n ≤ l.foldl max a := by
    induction l generalizing a with
    | nil => simp
    | cons x rest ih =>
      obtain ⟨hstart, hall⟩ := ih (max a x)
      refine ⟨Nat.le_trans (Nat.le_max_left a x) hstart, fun n hn => ?_⟩
      rcases List.mem_cons.1 hn with rfl | hn
      · exact Nat.le_trans (Nat.le_max_right a n) hstart
      · exact hall n hn
  exact Nat.lt_succ_of_le ((hmax _ 0).2 _ (List.mem_map_of_mem hf))

/-- R9, R10: a header at its point is taken, good or unreadable. -/
theorem exec_tenureHeader_of_awaited {s : State} (h : s.Hears) (hphase : s.bus.phase = .tenure)
    (hawaited : s.bus.header = .awaited) (hclosed : s.bus.verdict = .closed) (w : WireHeader) :
    exec (.tenureHeader w) s =
      match goodHeader w with
      | some hd => .next (s.activity.takeHeader hd)
      | none => .next (s.activity.setBus { s.bus with header := .unreadable }) :=
  (if_pos h.follows).trans (if_pos ⟨hphase, hawaited, hclosed⟩)

/-- Settles O10. -/
theorem tenureHeaderArrival : Obligations.TenureHeaderArrival := by
  refine ⟨rfl, fun bits b => ⟨fun h => ?_, fun h => ?_⟩, fun n v => ⟨bitsOf_length n v, fun i hi => bitsOf_getElem? v hi⟩,
    fun w => rfl, fun f => ⟨wireFrameBits_of_none, fun o => wireFrameBits_of_some⟩, fun w => rfl, fun a => rfl,
    goodHeader_eq_some_iff, fun s w hhears hphase hawaited hclosed => ⟨fun hbad => ?_, fun h hgood => ?_⟩,
    fun queue f hf => Nat.ne_of_lt (lt_freshTenure queue hf)⟩
  · rw [check16_append, checkStep_of_eq h]
  · rw [check16_append, checkStep_of_ne h]
  · rw [exec_tenureHeader_of_awaited hhears hphase hawaited hclosed, hbad]
    rfl
  · refine ⟨s.order.disagree || s.disagrees h.sender, s.isDestination h, ?_, s.isDestination_iff h, ?_⟩
    · rw [Bool.or_eq_true, disagrees_iff]
    · rw [exec_tenureHeader_of_awaited hhears hphase hawaited hclosed, hgood]
      dsimp only
      rw [takeHeader_eq, isDestination_activity]
      rfl

end Sys2Proof.Machine

namespace Sys2Proof.Machine

open State

/-! ## Frames -/

theorem frameVote_eq_refuse_iff (x : Window) (queued : Nat) (sender : StationId) (f : WireFrame) :
    frameVote x queued sender f = .refuse ↔ refusesFrame x sender f = true := by
  unfold frameVote
  repeat' split
  next h => simp [h]
  next h _ => simp [h]
  next h _ => simp [h]

theorem refusesFrame_iff (x : Window) (sender : StationId) (f : WireFrame) :
    refusesFrame x sender f = true ↔
      x.state ≠ .opened ∨ x.filter.getLsbD sender.val = false ∨
        (x.kind = .table ∧ f.offset = none) ∨ (x.kind ≠ .table ∧ f.offset ≠ none) ∨
        (x.kind = .once ∧ x.size < x.accepted.toNat + f.payload.length) ∨
        (x.kind = .table ∧ ∃ o, f.offset = some o ∧ x.size < o.toNat + f.payload.length) ∨
        (x.kind = .ring ∧ x.size < f.payload.length) := by
  rw [refusesFrame, Bool.or_eq_true, Bool.or_eq_true, or_assoc]
  refine or_congr (by simp) (or_congr (by simp) ?_)
  cases hkind : x.kind <;> cases hoffset : f.offset <;> simp

theorem frameVote_eq_retry_iff {x : Window} {queued : Nat} {sender : StationId} {f : WireFrame}
    (h : frameVote x queued sender f ≠ .refuse) :
    frameVote x queued sender f = .retry ↔
      (x.kind = .ring ∧ x.size < (x.accepted - x.consumed).toNat + f.payload.length) ∨ 16 ≤ queued := by
  have hnot : ¬ refusesFrame x sender f = true := fun hrefuses => h ((frameVote_eq_refuse_iff ..).2 hrefuses)
  have hdefers : defersFrame x queued f = true ↔
      (x.kind = .ring ∧ x.size < (x.accepted - x.consumed).toNat + f.payload.length) ∨ 16 ≤ queued := by
    rw [defersFrame, Bool.or_eq_true, Bool.and_eq_true, beq_iff_eq, decide_eq_true_eq, decide_eq_true_eq]
    rfl
  rw [← hdefers, frameVote, if_neg hnot]
  split
  next hyes => simp [hyes]
  next hno => simp [hno]

theorem worseVote_eq_refuse_iff (a b : Vote) : worseVote a b = .refuse ↔ a = .refuse ∨ b = .refuse := by
  cases a <;> cases b <;> decide

theorem worseVote_eq_accept_iff (a b : Vote) : worseVote a b = .accept ↔ a = .accept ∧ b = .accept := by
  cases a <;> cases b <;> decide

/-- R121: an accepted frame leaves the running vote as it was. -/
theorem worseVote_accept (a : Vote) : worseVote a .accept = a := by
  cases a <;> rfl

theorem isStream_iff (x : Window) : x.isStream = true ↔ x.kind ≠ .table := by
  simp [Window.isStream]

theorem acceptBytes_of_table {x : Window} (h : x.kind = .table) (n : Nat) : x.acceptBytes n = x :=
  if_neg fun hstream => (isStream_iff x).1 hstream h

theorem acceptBytes_of_once {x : Window} (h : x.kind = .once) (n : Nat) :
    x.acceptBytes n = { x with accepted := x.accepted + BitVec.ofNat 32 n } := by
  rw [Window.acceptBytes, if_pos ((isStream_iff x).2 (by simp [h])), if_neg (by simp [h])]

theorem acceptBytes_of_ring {x : Window} (h : x.kind = .ring) (n : Nat) :
    x.acceptBytes n =
      { x with accepted := x.accepted + BitVec.ofNat 32 n, ringPos := (x.ringPos + n) % x.size } := by
  rw [Window.acceptBytes, if_pos ((isStream_iff x).2 (by simp [h])), if_pos h]

theorem queuedFrameOf_target_of_none (x : Window) (v : TenureVote) (sender : StationId) {f : WireFrame}
    (h : f.offset = none) : (queuedFrameOf x v sender f).target = x.accepted := by
  rw [queuedFrameOf, h]

theorem queuedFrameOf_target_of_some (x : Window) (v : TenureVote) (sender : StationId) {f : WireFrame} {o : BitVec 20}
    (h : f.offset = some o) : (queuedFrameOf x v sender f).target.toNat = o.toNat := by
  rw [queuedFrameOf, h]
  show (BitVec.ofNat 32 o.toNat).toNat = o.toNat
  rw [BitVec.toNat_ofNat]
  exact Nat.mod_eq_of_lt (Nat.lt_trans o.isLt (by decide))

theorem frameGood_iff (h : Header) (n : Nat) (f : WireFrame) :
    frameGood h (n + 1) f = true ↔ f.index.val = n ∧ n + 1 ≤ h.frameCount ∧ check16 (wireFrameBits f) = f.check := by
  rw [frameGood, Bool.and_eq_true, Bool.and_eq_true, frameCheckGood, beq_iff_eq, beq_iff_eq, decide_eq_true_eq, and_assoc,
    Nat.add_right_cancel_iff]

namespace State

/-- R121 to R124: an accepted frame is queued as tentative and counted by the vote. -/
theorem landFrame_of_accept {s : State} {v : TenureVote} {sender : StationId} {f : WireFrame}
    (hv : s.landing.vote = some v)
    (haccept : frameVote (s.win v.window) s.landing.queue.length sender f = .accept) :
    s.landFrame sender f =
      { s with
        landing :=
          { s.landing with
            windows := s.landing.windows.set v.window ((s.win v.window).acceptBytes f.payload.length)
            queue := s.landing.queue ++ [queuedFrameOf (s.win v.window) v sender f]
            vote := some { v with accepted := v.accepted + 1 } } } := by
  rw [State.landFrame, hv]
  dsimp only
  rw [haccept, worseVote_accept]
  rfl

/-- R121: a frame not accepted leaves its vote with the tenure's. -/
theorem landFrame_of_not_accept {s : State} {v : TenureVote} {sender : StationId} {f : WireFrame}
    (hv : s.landing.vote = some v)
    (hnot : frameVote (s.win v.window) s.landing.queue.length sender f ≠ .accept) :
    s.landFrame sender f =
      { s with
        landing :=
          { s.landing with
            vote := some
              { v with running :=
                  worseVote v.running (frameVote (s.win v.window) s.landing.queue.length sender f) } } } := by
  rw [State.landFrame, hv]
  dsimp only
  cases hvote : frameVote (s.win v.window) s.landing.queue.length sender f with
  | accept => exact absurd hvote hnot
  | retry => rfl
  | refuse => rfl

end State

section

variable {s : State} {f : WireFrame} (hf : f.wellFormed = true) (h : s.Hears) (hphase : s.bus.phase = .tenure)
  (hclosed : s.bus.verdict = .closed)

include hf h hphase hclosed

/-- R12: a frame before the verdict slot of a tenure reaches the station; what it does with it depends on the header. -/
theorem exec_frame_of_tenure :
    exec (.frame f) s =
      match s.bus.header with
      | .good hd => .next (s.activity.takeFrameArrival hd f)
      | .awaited => .next s.activity
      | .unreadable => .next s.activity := by
  have hhears : (s.follows && (s.bus.phase == .tenure)) = true := by rw [h.follows, hphase]; rfl
  exact (if_pos hf).trans ((if_pos hhears).trans (if_pos hclosed))

theorem exec_frame_of_good {hd : Header} (hgood : s.bus.header = .good hd) :
    exec (.frame f) s = .next (s.activity.takeFrameArrival hd f) := by
  rw [exec_frame_of_tenure hf h hphase hclosed, hgood]

end

/-- Settles O11. -/
theorem frameArrival : Obligations.FrameArrival := by
  intro s f hf hhears hphase hclosed
  refine ⟨fun hheader => ?_, fun h hgood => ⟨fun hno => ?_, fun hdest hbad => ?_, fun hdest hindex hcount hcheck v hv =>
    ⟨fun haccept => ?_, fun hnot => ?_⟩⟩⟩
  · rw [exec_frame_of_tenure hf hhears hphase hclosed]
    rcases hheader with hheader | hheader <;> rw [hheader] <;> rfl
  all_goals rw [exec_frame_of_good hf hhears hphase hclosed hgood]
  · have hno' : ¬ s.activity.bus.destination = true := by
      show ¬ s.bus.destination = true
      simp [hno]
    exact congrArg _ (if_neg hno')
  · have hbadFrame : ¬ frameGood h (s.bus.framesReceived + 1) f = true := fun hg => hbad ((frameGood_iff ..).1 hg)
    exact congrArg _ ((if_pos hdest).trans (if_neg hbadFrame))
  all_goals
    have hgoodFrame : frameGood h (s.bus.framesReceived + 1) f = true := (frameGood_iff ..).2 ⟨hindex, hcount, hcheck⟩
    have hlands : s.activity.takeFrameArrival h f =
        (s.activity.setBus { s.bus with framesReceived := s.bus.framesReceived + 1 }).landFrame h.sender f :=
      (if_pos hdest).trans (if_pos hgoodFrame)
    rw [hlands]
  · exact congrArg _ (landFrame_of_accept (s := s.activity.setBus _) hv haccept)
  · exact congrArg _ (landFrame_of_not_accept (s := s.activity.setBus _) hv hnot)

/-! ## The verdict slot -/

namespace State

variable {s : State}

theorem stationVote_of_vote {v : TenureVote} (hv : s.landing.vote = some v) (failures : Nat) :
    s.stationVote failures =
      if v.running = .refuse ∨
          (1 ≤ v.accepted ∧ ((s.win v.window).state = .closing ∨ (s.win v.window).state = .faulted)) then .refuse
      else if v.running = .retry ∨ 0 < failures then .retry
      else .accept := by
  rw [State.stationVote, hv]
  dsimp only
  by_cases hrefuse : v.running = .refuse
  · rw [if_pos hrefuse, if_pos (.inl hrefuse)]
  · rw [if_neg hrefuse]
    by_cases hdrains : 1 ≤ v.accepted ∧ ((s.win v.window).state = .closing ∨ (s.win v.window).state = .faulted)
    · rw [if_pos hdrains, if_pos (.inr hdrains)]
    · rw [if_neg hdrains, if_neg (not_or.2 ⟨hrefuse, hdrains⟩)]

theorem missingFrames_of_good {h : Header} (hgood : s.bus.header = .good h) (hdest : s.bus.destination = true) :
    s.missingFrames = h.frameCount - s.bus.framesReceived := by
  rw [State.missingFrames, hgood]
  exact if_pos hdest

theorem missingFrames_of_none (h : s.bus.header = .awaited ∨ s.bus.header = .unreadable ∨ s.bus.destination = false) :
    s.missingFrames = 0 := by
  unfold State.missingFrames
  split
  next hd hgood =>
    refine if_neg ?_
    rcases h with h | h | h
    · rw [h] at hgood
      cases hgood
    · rw [h] at hgood
      cases hgood
    · simp [h]
  all_goals rfl

section

variable (hhears : s.Hears) (hup : s.membership.link ≠ .out) (failures : Nat)

include hhears hup

theorem lineToRaise_of_echoFailed (hecho : s.bus.echoFailed = true) : s.lineToRaise failures = some .retry := by
  rw [State.lineToRaise, if_neg (by simp [hup, hhears.follows]), if_pos hecho]

theorem lineToRaise_of_unreadable (hecho : s.bus.echoFailed = false) (hheader : s.bus.header = .unreadable) :
    s.lineToRaise failures = some .retry := by
  rw [State.lineToRaise, if_neg (by simp [hup, hhears.follows]), if_neg (by simp [hecho]), if_pos hheader]

theorem lineToRaise_of_readable (hecho : s.bus.echoFailed = false) (hheader : s.bus.header ≠ .unreadable) :
    s.lineToRaise failures = if s.bus.destination then some (s.stationVote failures) else none := by
  rw [State.lineToRaise, if_neg (by simp [hup, hhears.follows]), if_neg (by simp [hecho]), if_neg hheader]

end

end State

/-- R12, R17: the verdict mark counts the frames missing, and the station raises its line. -/
theorem exec_verdictMark_of_closed {s : State} (h : s.Hears) (hphase : s.bus.phase = .tenure)
    (hclosed : s.bus.verdict = .closed) :
    exec .verdictMark s = .next
      { s with
        membership := s.membership.activity
        bus := { s.bus with frameFailures := s.bus.frameFailures + s.missingFrames,
                            verdict := .opened (s.lineToRaise (s.bus.frameFailures + s.missingFrames)) } } := by
  have hhears : (s.follows && (s.bus.phase == .tenure)) = true := by rw [h.follows, hphase]; rfl
  exact (if_pos hhears).trans (if_pos hclosed)

/-- Settles O13. -/
theorem verdictMarkRaisesTheLine : Obligations.VerdictMarkRaisesTheLine := by
  refine ⟨fun s => ⟨fun h => ?_, fun line h => ?_⟩, fun s h hphase hclosed => ⟨s.missingFrames,
    s.lineToRaise (s.bus.frameFailures + s.missingFrames), fun hd => missingFrames_of_good, missingFrames_of_none,
    fun hout => if_pos (.inl hout), fun hup => lineToRaise_of_echoFailed h hup _,
    fun hup => lineToRaise_of_unreadable h hup _, fun hup hecho hheader hno => ?_,
    fun hup hecho hheader hdest v hv => ⟨fun hrefuses => ?_, fun hnot => ⟨fun hretry => ?_, fun hfine => ?_⟩⟩,
    exec_verdictMark_of_closed h hphase hclosed⟩⟩
  · rw [State.lineRaised, h]
  · rw [State.lineRaised, h]
  · rw [lineToRaise_of_readable h hup _ hecho hheader, if_neg (by simp [hno])]
  · rw [lineToRaise_of_readable h hup _ hecho hheader, if_pos hdest, stationVote_of_vote hv, if_pos hrefuses]
  · rw [lineToRaise_of_readable h hup _ hecho hheader, if_pos hdest, stationVote_of_vote hv, if_neg hnot, if_pos hretry]
  · rw [lineToRaise_of_readable h hup _ hecho hheader, if_pos hdest, stationVote_of_vote hv, if_neg hnot, if_neg hfine]

theorem lineShows_iff (sampled : Bool) (raised : Option Vote) (v : Vote) :
    lineShows sampled raised v = true ↔ sampled = true ∨ raised = some v := by
  rw [lineShows, Bool.or_eq_true, beq_iff_eq]

/-- R18, R20: the sample of the verdict lines ends the tenure. -/
theorem exec_verdictSample_of_opened {s : State} (h : s.Hears) (hphase : s.bus.phase = .tenure) {raised : Option Vote}
    (hopened : s.bus.verdict = .opened raised) (lines : Lines) :
    exec (.verdictSample lines) s = .next (s.tenureEnd (outcomeOfLines lines raised)) := by
  show execVerdictSample lines s = _
  rw [execVerdictSample, if_pos h.follows, hphase, hopened]

/-- Settles O14. -/
theorem tenureOutcomes : Obligations.TenureOutcomes := by
  refine ⟨fun s lines raised h hphase hopened => ?_, fun s h hphase hclosed => ?_⟩
  · simp only [exec_verdictSample_of_opened h hphase hopened, outcomeOfLines, lineShows_iff]
    refine ⟨fun hrefuse => ?_, fun hnorefuse hretry => ?_, fun hnorefuse hnoretry haccept => ?_,
      fun hrefuse hretry haccept hraised => ?_⟩
    · rw [if_pos hrefuse]
    · rw [if_neg hnorefuse, if_pos hretry]
    · rw [if_neg hnorefuse, if_neg hnoretry, if_pos haccept]
    · rw [if_neg (by simp [hrefuse, hraised]), if_neg (by simp [hretry, hraised]), if_neg (by simp [haccept, hraised])]
  · exact (if_pos h.follows).trans (if_pos ⟨hphase, hclosed⟩)

end Sys2Proof.Machine

namespace Sys2Proof

open Machine

/-- Settles O12; it stands beside the model's names, of which `frameVote` is one. -/
theorem frameVote : Obligations.FrameVote := by
  refine ⟨fun x queued sender f => ⟨?_, frameVote_eq_retry_iff⟩,
    fun a b => ⟨worseVote_eq_refuse_iff a b, worseVote_eq_accept_iff a b⟩,
    fun x v sender f => ⟨⟨rfl, rfl, rfl, rfl, rfl, rfl, queuedFrameOf_target_of_none x v sender,
      fun o => queuedFrameOf_target_of_some x v sender, fun hring => if_pos hring⟩, acceptBytes_of_table,
      acceptBytes_of_once, acceptBytes_of_ring⟩⟩
  rw [frameVote_eq_refuse_iff, refusesFrame_iff]

end Sys2Proof

namespace Sys2Proof.Machine

open State

/-! ## The tenure end -/

namespace State

variable {s : State}

theorem senderOutcome_of_tenure {c : ChannelNo} (h : s.bus.drive = .tenure c) (o : TenureOutcome) :
    s.senderOutcome o = s.channelOutcome c o := by
  rw [State.senderOutcome, h]

theorem senderOutcome_of_other (h : ∀ c, s.bus.drive ≠ .tenure c) (o : TenureOutcome) : s.senderOutcome o = s := by
  unfold State.senderOutcome
  split
  next c hdrive => exact absurd hdrive (h c)
  all_goals rfl

theorem selfAddressed_iff (s : State) :
    s.selfAddressed = true ↔ (∃ c, s.bus.drive = .tenure c) ∧ s.landing.vote.isSome = true := by
  rw [State.selfAddressed, Bool.and_eq_true]
  refine and_congr_left' ?_
  split
  next c hdrive => simp [hdrive]
  all_goals
    next hdrive => simp [hdrive]

theorem takeOutcome_of_one (h : ¬ s.selfAddressed = true) (o : TenureOutcome) :
    s.takeOutcome o = (s.senderOutcome o).landingOutcome o := if_neg h

/-- Log 16: where channel and landing unit both act, either may be first. -/
theorem takeOutcome_of_both (h : s.selfAddressed = true) (o : TenureOutcome) :
    s.takeOutcome o = (s.draw.2.senderOutcome o).landingOutcome o ∨
      s.takeOutcome o = (s.draw.2.landingOutcome o).senderOutcome o := by
  rw [State.takeOutcome, if_pos h]
  cases hfirst : Config.firstReport s.choices
  · exact .inr (if_neg (by simp [hfirst]))
  · exact .inl (if_pos (by simp [hfirst]))

theorem landingOutcome_bus (s : State) (o : TenureOutcome) : (s.landingOutcome o).bus = s.bus := by
  obtain ⟨l, p, log, heq⟩ := landingOutcome_shape s o
  rw [heq]
  rfl

/-- R20, R29, R39: order list and tenure counter take the tenure end; straps, PACE inputs, last channel sent and command
port do not. -/
theorem tenureEnd_keeps (s : State) (o : TenureOutcome) :
    (s.tenureEnd o).order = s.rotate.countTenure.order ∧ (s.tenureEnd o).membership = s.rotate.countTenure.membership ∧
      (s.tenureEnd o).straps = s.straps ∧ (s.tenureEnd o).pace = s.pace ∧ (s.tenureEnd o).lastSent = s.lastSent ∧
      (s.tenureEnd o).cmd = s.cmd := by
  obtain ⟨chs, land, p, l, n, heq⟩ := tenureEnd_shape s o
  simp [heq, State.countTenure, State.rotate]

theorem tenureEnd_eq (s : State) (o : TenureOutcome) :
    s.tenureEnd o = (s.rotate.countTenure.takeOutcome o).setBus (s.tenureEnd o).bus := by
  unfold State.tenureEnd
  rfl

end State

/-- Settles O15. -/
theorem tenureEndEffects : Obligations.TenureEndEffects := by
  intro s o
  have hone (hno : ¬ s.rotate.countTenure.selfAddressed = true) :
      s.tenureEnd o = ((s.rotate.countTenure.senderOutcome o).landingOutcome o).setBus (s.tenureEnd o).bus := by
    rw [← takeOutcome_of_one hno]
    exact tenureEnd_eq s o
  obtain ⟨horder, hmembership, hstraps, hpace, hlastSent, hcmd⟩ := tenureEnd_keeps s o
  refine ⟨s.tenureEnd_bus o, horder, hmembership, hstraps, hpace, hlastSent, hcmd, fun hdrive => ?_,
    fun c hdrive hvote => ?_, fun c hdrive hvote => ?_⟩
  · have hone := hone fun hboth => by
      obtain ⟨⟨c, hc⟩, -⟩ := (selfAddressed_iff _).1 hboth
      exact hdrive c hc
    rw [senderOutcome_of_other (s := s.rotate.countTenure) hdrive o] at hone
    exact hone
  · have hone := hone fun hboth => by
      obtain ⟨-, hsome⟩ := (selfAddressed_iff _).1 hboth
      rw [show s.rotate.countTenure.landing.vote = none from hvote] at hsome
      cases hsome
    rw [senderOutcome_of_tenure (s := s.rotate.countTenure) hdrive o] at hone
    exact hone
  · have hdrawn : s.rotate.countTenure.draw.2.bus.drive = .tenure c := hdrive
    have hlanded : (s.rotate.countTenure.draw.2.landingOutcome o).bus.drive = .tenure c := by
      rw [landingOutcome_bus, hdrawn]
    have hend := tenureEnd_eq s o
    refine (takeOutcome_of_both (s := s.rotate.countTenure) ((selfAddressed_iff _).2 ⟨⟨c, hdrive⟩, hvote⟩) o).imp (fun heq => ?_) fun heq => ?_
    · rw [heq, senderOutcome_of_tenure hdrawn o] at hend
      exact hend
    · rw [heq, senderOutcome_of_tenure hlanded o] at hend
      exact hend

/-! ## Rotation -/

theorem findIdx?_sender {list : List Entry} {sender : StationId} {i : Nat} {e : Entry} (he : list[i]? = some e)
    (hid : e.id = sender) (hfirst : ∀ j < i, ∀ d, list[j]? = some d → d.id ≠ sender) :
    (list.findIdx? fun d => d.id == sender) = some i := by
  obtain ⟨hi, hget⟩ := List.getElem?_eq_some_iff.1 he
  rw [List.findIdx?_eq_some_iff_getElem]
  refine ⟨hi, by simp [hget, hid], fun j hj => ?_⟩
  simpa using hfirst j hj _ (List.getElem?_eq_getElem (Nat.lt_trans hj hi))

theorem rotationIndex_of_sender {list : List Entry} {hd : Header} {i : Nat}
    (h : (list.findIdx? fun d => d.id == hd.sender) = some i) (rank : Option Nat) :
    rotationIndex list (.good hd) rank = some i := by
  rw [rotationIndex]
  rw [h]

/-- Figure 2-2: without the sender in the list the contest rank chooses. -/
theorem rotationIndex_of_absent {list : List Entry} {h : HeaderView}
    (habsent : ∀ hd, h = .good hd → ∀ e ∈ list, e.id ≠ hd.sender) (rank : Option Nat) :
    rotationIndex list h rank = rank.filter fun r => decide (r < list.length) := by
  cases h with
  | good hd =>
    have hnone : (list.findIdx? fun e => e.id == hd.sender) = none := by
      rw [List.findIdx?_eq_none_iff]
      simpa using habsent hd rfl
    rw [rotationIndex]
    rw [hnone]
  | awaited => rfl
  | unreadable => rfl

theorem rotated_of_index {list : List Entry} {h : HeaderView} {rank : Option Nat} {i : Nat}
    (hi : rotationIndex list h rank = some i) : rotated .rotate list h rank = moveToBottom list i := by
  rw [rotated]
  rw [hi]

theorem rotated_of_none {list : List Entry} {h : HeaderView} {rank : Option Nat}
    (hnone : rotationIndex list h rank = none) : rotated .rotate list h rank = list := by
  rw [rotated]
  rw [hnone]

/-- Settles O16. -/
theorem rotationChoice : Obligations.RotationChoice := by
  refine ⟨fun list h rank => rfl, fun list hd rank i e he hid hfirst => ?_,
    fun list h r habsent => ⟨fun hlt => ?_, fun hge => ?_, ?_⟩⟩
  · exact rotated_of_index (rotationIndex_of_sender (findIdx?_sender he hid hfirst) rank)
  · exact rotated_of_index ((rotationIndex_of_absent habsent _).trans (by simp [hlt]))
  · exact rotated_of_none ((rotationIndex_of_absent habsent _).trans (by simp [hge]))
  · exact rotated_of_none (rotationIndex_of_absent habsent _)

theorem moveToBottom_append (above below : List Entry) (e : Entry) :
    moveToBottom (above ++ e :: below) above.length = above ++ below ++ [e] := by
  have hget : (above ++ e :: below)[above.length]? = some e := by simp
  rw [moveToBottom, hget]
  dsimp only
  rw [List.eraseIdx_append_of_length_le (Nat.le_refl _), Nat.sub_self, List.eraseIdx_cons_zero]

/-- R25, R30: where an ID stands before its entry has moved. -/
theorem rank_before (p : Entry → Bool) (above below : List Entry) (e : Entry) :
    (above ++ e :: below).findIdx? p =
      (above.findIdx? p).or (if p e then some above.length else (below.findIdx? p).map (· + 1 + above.length)) := by
  rw [List.findIdx?_append, List.findIdx?_cons]
  congr 1
  split
  · simp
  · rw [Option.map_map]
    rfl

/-- R25, R30: where an ID stands after its entry has moved to the bottom. -/
theorem rank_after (p : Entry → Bool) (above below : List Entry) (e : Entry) :
    (above ++ below ++ [e]).findIdx? p =
      (above.findIdx? p).or
        (((below.findIdx? p).map (· + above.length)).or (if p e then some (above.length + below.length) else none)) := by
  rw [List.findIdx?_append, List.findIdx?_append, List.findIdx?_singleton, Option.or_assoc, List.length_append]
  congr 2
  split <;> simp

theorem findIdx?_lt {p : Entry → Bool} {list : List Entry} {i : Nat} (h : list.findIdx? p = some i) : i < list.length := by
  obtain ⟨hi, -⟩ := List.findIdx?_eq_some_iff_getElem.1 h
  exact hi

/-- R30: with no ID twice, the mover's ID stands nowhere else. -/
theorem findIdx?_eq_none_of_nodup {above below : List Entry} {e : Entry}
    (h : ((above ++ e :: below).map fun d => d.id).Nodup) :
    (above.findIdx? fun d => d.id == e.id) = none ∧ (below.findIdx? fun d => d.id == e.id) = none := by
  rw [List.map_append, List.map_cons, List.nodup_append, List.nodup_cons] at h
  obtain ⟨-, ⟨hbelow, -⟩, habove⟩ := h
  constructor
  · rw [List.findIdx?_eq_none_iff]
    intro d hd
    simpa using habove d.id (List.mem_map_of_mem hd) e.id List.mem_cons_self
  · rw [List.findIdx?_eq_none_iff]
    intro d hd
    have hne : d.id ≠ e.id := fun heq => hbelow (heq ▸ List.mem_map_of_mem hd)
    simpa using hne

/-- Settles O17. -/
theorem chosenEntryMovesToTheBottom : Obligations.ChosenEntryMovesToTheBottom := by
  refine ⟨fun above below e => ⟨moveToBottom_append above below e, ?_⟩, fun s above below e hlist hnodup => ?_,
    fun s => rfl⟩
  · rw [moveToBottom_append]
    simp only [List.length_append, List.length_cons, List.length_nil]
    omega
  · intro t
    have hmoved : t.order.list = above ++ below ++ [e] := by
      show moveToBottom s.order.list above.length = _
      rw [hlist, moveToBottom_append]
    have hbefore : s.ownRank = _ :=
      (congrArg _ hlist).trans (rank_before (fun d => d.id == s.straps.id) above below e)
    have hafter : t.ownRank = _ :=
      (congrArg _ hmoved).trans (rank_after (fun d => d.id == s.straps.id) above below e)
    have hcount : s.memberCount = above.length + below.length + 1 := by
      rw [State.memberCount, hlist, List.length_append, List.length_cons]
      omega
    refine ⟨fun hown => ?_, fun r hr hlt => ?_, fun r hr hlt => ?_, fun hnone => ?_, ?_⟩
    · rw [hlist] at hnodup
      obtain ⟨habove, hbelow⟩ := findIdx?_eq_none_of_nodup hnodup
      rw [hafter, hcount, ← hown, habove, hbelow]
      simp
    · rw [hbefore] at hr
      rw [hafter]
      cases habove : above.findIdx? fun d => d.id == s.straps.id with
      | some i =>
        rw [habove] at hr
        have hi := findIdx?_lt habove
        simp only [Option.some_or, Option.some.injEq] at hr
        omega
      | none =>
        rw [habove, Option.none_or] at hr
        split at hr
        next => simp only [Option.some.injEq] at hr; omega
        next hother =>
          obtain ⟨i, hi, rfl⟩ := Option.map_eq_some_iff.1 hr
          simp [hi]
    · rw [hbefore] at hr
      rw [hafter]
      cases habove : above.findIdx? fun d => d.id == s.straps.id with
      | some i =>
        rw [habove] at hr
        exact hr
      | none =>
        rw [habove, Option.none_or] at hr
        split at hr
        next => simp only [Option.some.injEq] at hr; omega
        next hother =>
          obtain ⟨i, hi, rfl⟩ := Option.map_eq_some_iff.1 hr
          omega
    · rw [hbefore, Option.or_eq_none_iff] at hnone
      obtain ⟨habove, hrest⟩ := hnone
      split at hrest
      next => cases hrest
      next hother =>
        rw [hafter, habove, Option.map_eq_none_iff.1 hrest, if_neg hother]
        rfl
    · rw [hcount, State.memberCount, hmoved]
      simp only [List.length_append, List.length_cons, List.length_nil]

end Sys2Proof.Machine

namespace Sys2Proof.Machine

open State

/-! ## Outcomes at the sender -/

namespace State

variable {s : State} {c : ChannelNo} {seg : Segment}

theorem channelOutcome_of_onBus (hstate : (s.chan c).state = .onBus) (hseg : (s.chan c).current = some seg)
    (o : TenureOutcome) :
    s.channelOutcome c o =
      match o with
      | .commit => s.commitAtSender c seg
      | .retry => s.retryAtSender c seg
      | .aborted => s.retryAtSender c seg
      | .refuse => s.endSegment c seg .refused
      | .unclaimed => s.endSegment c seg .noReceiver := by
  cases o <;> simp only [State.channelOutcome, hstate, hseg]

theorem channelOutcome_of_other (h : (s.chan c).state ≠ .onBus) (o : TenureOutcome) : s.channelOutcome c o = s := by
  unfold State.channelOutcome
  split
  next hstate _ => exact absurd hstate h
  next => rfl

theorem channelWithdrawal_of_onBus (hstate : (s.chan c).state = .onBus) (hseg : (s.chan c).current = some seg) :
    s.channelWithdrawal c =
      if seg.stopPending then s.endSegment c seg .stopped else s.setChan c { s.chan c with state := .ready } := by
  rw [State.channelWithdrawal, hstate, hseg]

/-- R101, R103: a RETRY and an ABORTED are taken alike. -/
theorem channelOutcome_retry (hstate : (s.chan c).state = .onBus) (hseg : (s.chan c).current = some seg)
    {o : TenureOutcome} (ho : o = .retry ∨ o = .aborted) : s.channelOutcome c o = s.retryAtSender c seg := by
  rw [channelOutcome_of_onBus hstate hseg]
  rcases ho with rfl | rfl <;> rfl

end State

/-- Settles O18. -/
theorem outcomeAtTheSender : Obligations.OutcomeAtTheSender := by
  refine ⟨fun s c seg hstate hseg => ?_, fun s c o => channelOutcome_of_other (o := o)⟩
  intro sent
  have houtcome := channelOutcome_of_onBus hstate hseg
  have hretry {o : TenureOutcome} (ho : o = .retry ∨ o = .aborted) := channelOutcome_retry hstate hseg ho
  refine ⟨fun hall => ?_, fun hmore hstop => ?_, fun hmore hstop => ?_, fun o ho => ⟨fun hlast => ?_, fun hmore hstop => ?_,
    fun hmore hstop => ?_⟩, houtcome _, houtcome _⟩
  · exact (houtcome .commit).trans (if_pos hall)
  · exact (houtcome .commit).trans ((if_neg hmore).trans (if_pos hstop))
  · exact (houtcome .commit).trans ((if_neg hmore).trans (if_neg (by simp [hstop])))
  · exact (hretry ho).trans (if_pos hlast)
  · exact (hretry ho).trans ((if_neg (Nat.not_le.2 hmore)).trans (if_pos hstop))
  · exact (hretry ho).trans ((if_neg (Nat.not_le.2 hmore)).trans (if_neg (by simp [hstop])))

/-! ## Outcomes at the landing unit -/

theorem ringBack_of_le {p size back : Nat} (hp : p < size) (hback : back ≤ p) : ringBack p size back = p - back := by
  have hsplit : p + size - back = p - back + size := by omega
  rw [ringBack, Nat.mod_eq_of_lt (Nat.lt_of_le_of_lt hback hp), hsplit, Nat.add_mod_right, Nat.mod_eq_of_lt (by omega)]

theorem ringBack_of_lt {p size back : Nat} (hp : p < back) (hback : back ≤ size) :
    ringBack p size back = p + size - back := by
  rcases Nat.lt_or_eq_of_le hback with hlt | rfl
  · rw [ringBack, Nat.mod_eq_of_lt hlt, Nat.mod_eq_of_lt (by omega)]
  · rw [ringBack, Nat.mod_self, Nat.sub_zero, Nat.add_mod_right, Nat.mod_eq_of_lt hp, Nat.add_sub_cancel]

namespace Window

variable {x : Window}

theorem setBack_of_table (h : x.kind = .table) : x.setBack = x :=
  if_neg fun hstream => (isStream_iff x).1 hstream h

theorem setBack_of_once (h : x.kind = .once) : x.setBack = { x with accepted := x.commitMark } := by
  rw [Window.setBack, if_pos ((isStream_iff x).2 (by simp [h])), if_neg (by simp [h])]

theorem setBack_of_ring (h : x.kind = .ring) :
    x.setBack =
      { x with accepted := x.commitMark
               ringPos := ringBack x.ringPos x.size (x.accepted - x.commitMark).toNat } := by
  rw [Window.setBack, if_pos ((isStream_iff x).2 (by simp [h])), if_pos h]

theorem commitFrames_eq (x : Window) (n : Nat) (sender : StationId) :
    x.commitFrames n sender =
      { x with
        commitMark := if x.kind = .table then x.commitMark else x.accepted
        committedFrames := min 65535 (x.committedFrames + n)
        lastSender := if n = 0 then x.lastSender else some sender } := by
  have hmark : (if x.isStream then x.accepted else x.commitMark) = if x.kind = .table then x.commitMark else x.accepted := by
    by_cases htable : x.kind = .table
    · rw [if_pos htable, if_neg fun hstream => (isStream_iff x).1 hstream htable]
    · rw [if_neg htable, if_pos ((isStream_iff x).2 htable)]
  rw [Window.commitFrames, hmark]
  rfl

end Window

namespace State

variable {s : State}

theorem landingCommit_of_vote {v : TenureVote} (hv : s.landing.vote = some v) :
    s.landingCommit =
      (((s.setWin v.window
          ((s.win v.window).commitFrames (s.landing.queue.filter fun f => !f.released).length v.sender)).setLanding
        { (s.setWin v.window
            ((s.win v.window).commitFrames (s.landing.queue.filter fun f => !f.released).length v.sender)).landing with
          queue := s.landing.queue.map fun f => { f with released := true }
          vote := none }).writerAct) := by
  rw [State.landingCommit, hv]

theorem landingDrop_of_vote {v : TenureVote} (hv : s.landing.vote = some v) :
    s.landingDrop =
      ((({ s with
        landing :=
          { s.landing with
            windows := s.landing.windows.set v.window (s.win v.window).setBack
            queue := s.landing.queue.filter fun f => f.released
            vote := none } } : State).drainTest v.window).offer (.window v.window)) := by
  rw [State.landingDrop, hv]
  rfl

theorem landingOutcome_of_not_commit {o : TenureOutcome} (h : o ≠ .commit) (s : State) :
    s.landingOutcome o = s.landingDrop := by
  cases o with
  | commit => exact absurd rfl h
  | retry => rfl
  | refuse => rfl
  | unclaimed => rfl
  | aborted => rfl

theorem landingDrop_of_none (hv : s.landing.vote = none) :
    s.landingDrop = s.setQueue (s.landing.queue.filter fun f => f.released) := by
  rw [State.landingDrop, hv]

theorem landingCommit_of_none (hv : s.landing.vote = none) :
    s.landingCommit =
      (s.setLanding
        { s.landing with queue := s.landing.queue.map fun f => { f with released := true }, vote := none }).writerAct := by
  rw [State.landingCommit, hv]

theorem map_released_of_all {queue : List QueuedFrame} (h : ∀ f ∈ queue, f.released = true) :
    (queue.map fun f => { f with released := true }) = queue := by
  refine (List.map_congr_left fun f hf => ?_).trans (List.map_id queue)
  show _ = f
  rw [← h f hf]

/-- R140: a writer at work, and one with no released frame to write, do nothing. -/
theorem writerAct_of_quiet
    (h : ∀ f rest, s.landing.queue = f :: rest → s.landing.writer ≠ .idle ∨ f.released = false) : s.writerAct = s := by
  unfold State.writerAct
  split
  next f rest hidle hqueue =>
    rcases h f rest hqueue with hbusy | hno
    · exact absurd hidle hbusy
    · rw [if_neg (by simp [hno])]
  next => rfl

/-- R140: the writer is at work on every released head. -/
theorem WriterSound.quiet (h : s.WriterSound) (f : QueuedFrame) (rest : List QueuedFrame)
    (hqueue : s.landing.queue = f :: rest) : s.landing.writer ≠ .idle ∨ f.released = false := by
  rw [State.WriterSound, hqueue] at h
  dsimp only at h
  split at h
  next =>
    rcases h with ⟨hfirst, -⟩ | ⟨hsecond, -⟩
    · exact .inl (by simp [hfirst])
    · exact .inl (by simp [hsecond])
  next hno => exact .inr (Bool.eq_false_iff.2 hno)

end State

/-- Settles O19. -/
theorem outcomeAtTheLandingUnit : Obligations.OutcomeAtTheLandingUnit := by
  refine ⟨fun s v hv => ?_, fun s v o hv ho => ?_, fun x => ⟨Window.setBack_of_table, Window.setBack_of_once,
    fun hring hpos hle => ?_, fun hring hpos hlt hle => ?_⟩, fun s hv hall => ⟨fun hwriter => ?_, fun o ho => ?_⟩⟩
  · intro n x
    have hcommit := landingCommit_of_vote hv
    rw [Window.commitFrames_eq] at hcommit
    exact hcommit
  · rw [landingOutcome_of_not_commit ho, landingDrop_of_vote hv]
  · rw [Window.setBack_of_ring hring, ringBack_of_le hpos hle]
  · rw [Window.setBack_of_ring hring, ringBack_of_lt hlt hle]
  · have hcommit : s.landingCommit = s.writerAct := by
      rw [landingCommit_of_none hv, map_released_of_all hall, ← hv]
      rfl
    exact hcommit.trans (writerAct_of_quiet hwriter.quiet)
  · rw [landingOutcome_of_not_commit ho, landingDrop_of_none hv, List.filter_eq_self.2 hall]
    rfl

/-! ## Echo mismatches in a tenure -/

namespace State

/-- R57: what a collision in its own tenure makes of a placed station. -/
theorem tenureCollision_of_placed {s : State} (h : s.membership.link = .member ∨ s.membership.link = .leaving) :
    s.tenureCollision =
      (s.setMembership
        (if s.membership.link = .leaving then
          { s.membership with link := .out, lastReason := .collided, idleTimer := .stopped,
                              formationTimer := .stopped, idleWant := false, formationWant := false }
        else
          { s.membership with link := .listening, lastReason := .collided, idleTimer := .stopped,
                              formationTimer := .running, idleWant := false, formationWant := false })).note
        (.change .collided) := by
  unfold State.tenureCollision
  rcases h with h | h <;> rw [h] <;> rfl

theorem stopPendingAt_of_onBus {s : State} {c : ChannelNo} {seg : Segment} (hstate : (s.chan c).state = .onBus)
    (hseg : (s.chan c).current = some seg) : s.stopPendingAt c = seg.stopPending := by
  rw [State.stopPendingAt, hstate, hseg]

theorem reportWithdrawal_of_one {s : State} {c : ChannelNo} (h : s.stopPendingAt c = false) :
    s.reportWithdrawal c = (s.channelWithdrawal c).tenureCollision := if_neg (by simp [h])

/-- Log 16: where channel and membership unit both have a record to place, either may be first. -/
theorem reportWithdrawal_of_both {s : State} {c : ChannelNo} (h : s.stopPendingAt c = true) :
    s.reportWithdrawal c = (s.draw.2.channelWithdrawal c).tenureCollision ∨
      s.reportWithdrawal c = s.draw.2.tenureCollision.channelWithdrawal c := by
  rw [State.reportWithdrawal, if_pos h]
  cases hfirst : Config.firstReport s.choices
  · exact .inr (if_neg (by simp [hfirst]))
  · exact .inl (if_pos (by simp [hfirst]))

theorem tenureCollision_chan (s : State) (c : ChannelNo) : s.tenureCollision.chan c = s.chan c := by
  obtain ⟨m, l, heq⟩ := tenureCollision_shape s
  rw [heq]
  rfl

end State

/-- R14: the mismatch in the sender ID field. -/
theorem exec_echoWithdrawal_of_sender {s : State} {c : ChannelNo} (hphase : s.bus.phase = .tenure)
    (hdrive : s.bus.drive = .tenure c) (hheader : s.bus.header = .awaited) (hverdict : s.bus.verdict = .closed) :
    exec .echoWithdrawal s = .next ((s.setBus { s.bus with drive := .nothing }).reportWithdrawal c) := by
  show execEchoWithdrawal s = _
  rw [execEchoWithdrawal, hphase, hdrive, hheader, hverdict]

/-- Settles O20. -/
theorem echoMismatchInTenure : Obligations.EchoMismatchInTenure := by
  refine ⟨fun s c seg hphase hdrive hheader hverdict hstate hseg hstop hlink => ?_,
    fun s c seg hphase hdrive hheader hverdict hstate hseg hstop => ?_, fun s c hphase hdrive hverdict => ?_⟩
  · have hone : (s.setBus { s.bus with drive := .nothing }).stopPendingAt c = false :=
      (stopPendingAt_of_onBus (s := s.setBus _) hstate hseg).trans hstop
    have hwithdrawn := (channelWithdrawal_of_onBus (s := s.setBus { s.bus with drive := .nothing }) hstate hseg).trans
      (if_neg (by simp [hstop]))
    rw [exec_echoWithdrawal_of_sender hphase hdrive hheader hverdict, reportWithdrawal_of_one hone, hwithdrawn]
    exact congrArg _ (tenureCollision_of_placed (s := (s.setBus _).setChan c _) hlink)
  · intro quiet
    have hboth : (s.setBus { s.bus with drive := .nothing }).stopPendingAt c = true :=
      (stopPendingAt_of_onBus (s := s.setBus _) hstate hseg).trans hstop
    have hfirst : quiet.channelWithdrawal c = quiet.endSegment c seg .stopped :=
      (channelWithdrawal_of_onBus (s := quiet) hstate hseg).trans (if_pos hstop)
    have hchan : quiet.tenureCollision.chan c = s.chan c := tenureCollision_chan quiet c
    have hsecond : quiet.tenureCollision.channelWithdrawal c = quiet.tenureCollision.endSegment c seg .stopped :=
      (channelWithdrawal_of_onBus ((congrArg _ hchan).trans hstate) ((congrArg _ hchan).trans hseg)).trans (if_pos hstop)
    rw [exec_echoWithdrawal_of_sender hphase hdrive hheader hverdict, ← hfirst, ← hsecond]
    exact (reportWithdrawal_of_both hboth).imp (congrArg _) (congrArg _)
  · show execEchoMismatchTenure s = _
    rw [execEchoMismatchTenure, hphase, hdrive, hverdict]
    rfl

end Sys2Proof.Machine

namespace Sys2Proof.Machine

open State

/-! ## Census headers and the parts of a census -/

theorem goodCensusHeader_eq_some_iff (w : WireCensusHeader) (h : CensusHeader) :
    goodCensusHeader w = some h ↔
      check16 (wireCensusHeaderBits w) = w.check ∧ w.slots.val ≤ 16 ∧
        h = { claimant := w.claimant, slots := w.slots.val, mode := w.mode, interval := w.interval } := by
  unfold goodCensusHeader
  split
  next hgood => simp [hgood, eq_comm]
  next hbad => exact iff_of_false (by simp) fun ⟨hcheck, hslots, _⟩ => hbad ⟨hcheck, hslots⟩

section

variable {s : State} (h : s.Hears) (hphase : s.bus.phase = .census) (hawaited : s.bus.censusHeader = .awaited)
  (hmarks : s.bus.slotMarks = 0) {w : WireCensusHeader}

include h hphase hawaited hmarks

/-- R21: a census header at its point whose check or slot count is bad. -/
theorem exec_censusHeader_of_bad (hbad : goodCensusHeader w = none) :
    exec (.censusHeader w) s =
      .next (s.activity.setBus { s.bus with censusHeader := .bad, drive := afterHeader s.bus.drive }) := by
  show execCensusHeader w s = _
  rw [execCensusHeader, if_pos h.follows, if_pos ⟨hphase, hawaited, hmarks⟩, hbad]

/-- R21, R45: a good census header at its point. -/
theorem exec_censusHeader_of_good {hd : CensusHeader} (hgood : goodCensusHeader w = some hd) :
    exec (.censusHeader w) s =
      .next ((s.activity.setBus { s.bus with censusHeader := .good, drive := afterHeader s.bus.drive }).openCensus hd) := by
  show execCensusHeader w s = _
  rw [execCensusHeader, if_pos h.follows, if_pos ⟨hphase, hawaited, hmarks⟩, hgood]

end

namespace State

theorem openCensus_of_listening {s : State} (h : s.membership.link = .listening) (hd : CensusHeader) :
    s.openCensus hd = (s.setMembership { s.membership with census := some (recordOf hd) }).enter .joining none := if_pos h

theorem openCensus_of_other {s : State} (h : s.membership.link ≠ .listening) (hd : CensusHeader) :
    s.openCensus hd = s.setMembership { s.membership with census := some (recordOf hd) } := if_neg h

theorem activity_membership_link (s : State) : s.activity.membership.link = s.membership.link := activity_link _

theorem activity_membership_census (s : State) : s.activity.membership.census = s.membership.census := activity_census _

end State

/-- Settles O21. -/
theorem censusHeaderArrival : Obligations.CensusHeaderArrival := by
  refine ⟨goodCensusHeader_eq_some_iff, fun s w h hphase hawaited hmarks => ⟨fun hbad => ?_, fun hd hgood => ?_⟩⟩
  · exact exec_censusHeader_of_bad h hphase hawaited hmarks hbad
  · intro opened
    rw [exec_censusHeader_of_good h hphase hawaited hmarks hgood]
    have hsame (b : BusController) : (s.activity.setBus b).membership.link = s.membership.link := activity_membership_link s
    by_cases hlink : s.membership.link = .listening
    · rw [openCensus_of_listening ((hsame _).trans hlink), if_pos hlink]
      rfl
    · rw [openCensus_of_other fun hl => hlink ((hsame _).symm.trans hl), if_neg hlink]
      rfl

theorem afterHeader_of_other {d : Drive} (h : ∀ hd, d ≠ .census hd .header) : afterHeader d = d := by
  unfold afterHeader
  split
  next hd => exact absurd rfl (h hd)
  next => rfl

theorem afterSlotMark_of_other {d : Drive} (h : ∀ hd k, d ≠ .census hd (.slotMark k)) : afterSlotMark d = d := by
  unfold afterSlotMark
  split
  next hd k => exact absurd rfl (h hd k)
  next => rfl

/-- R21: the slot time in a census at a station in step. -/
theorem exec_censusSlotTime_of_claimant {s : State} (h : s.Hears) (hphase : s.bus.phase = .census) {hd : CensusHeader} {k : Nat}
    (hdrive : s.bus.drive = .census hd (.slotTime k)) :
    exec .censusSlotTime s = .next (s.setBus { s.bus with drive := .census hd (nextPart hd.slots k), answer := none }) := by
  show execCensusSlotTime s = _
  rw [execCensusSlotTime, if_pos h.follows, if_pos hphase, hdrive]

/-- Settles O22. -/
theorem claimantDrivesTheCensus : Obligations.ClaimantDrivesTheCensus := by
  refine ⟨fun h => rfl, fun h k => rfl, ⟨rfl, rfl⟩, fun d => afterHeader_of_other, fun d => afterSlotMark_of_other,
    fun s hd k h hphase hdrive => ⟨fun hmore => ?_, fun hlast => ?_⟩, fun s h hphase hdrive => ?_⟩
  · have hnext : nextPart hd.slots k = .slotMark (k + 1) := if_pos hmore
    rw [exec_censusSlotTime_of_claimant h hphase hdrive, hnext]
    rfl
  · have hnext : nextPart hd.slots k = .endMark := if_neg (Nat.not_lt.2 hlast)
    rw [exec_censusSlotTime_of_claimant h hphase hdrive, hnext]
    rfl
  · show execCensusSlotTime s = _
    rw [execCensusSlotTime, if_pos h.follows, if_pos hphase, hdrive]

/-! ## Slots -/

namespace State

variable {s : State}

theorem listAnswerSent_of_list {id : StationId} {leave : Bool} {copy : List Entry}
    (h : s.bus.answer = some (.list id leave copy)) : s.listAnswerSent = some (sealListAnswer id leave (listCopy copy)) := by
  rw [State.listAnswerSent, h]

theorem joinAnswerSent_of_list {id : StationId} {leave : Bool} {copy : List Entry}
    (h : s.bus.answer = some (.list id leave copy)) : s.joinAnswerSent = none := by
  rw [State.joinAnswerSent, h]

theorem listAnswerSent_of_join {id : StationId} (h : s.bus.answer = some (.join id)) : s.listAnswerSent = none := by
  rw [State.listAnswerSent, h]

theorem joinAnswerSent_of_join {id : StationId} (h : s.bus.answer = some (.join id)) :
    s.joinAnswerSent = some (sealJoinAnswer id) := by
  rw [State.joinAnswerSent, h]

theorem answersSent_of_none (h : s.bus.answer = none) : s.listAnswerSent = none ∧ s.joinAnswerSent = none := by
  rw [State.listAnswerSent, State.joinAnswerSent, h]
  exact ⟨rfl, rfl⟩

/-- R8: the check put on the bus covers the fields it is put beside. -/
theorem sealListAnswer_check (id : StationId) (leave : Bool) (entries : List WireEntry) :
    (sealListAnswer id leave entries).check = check16 (wireListAnswerBits (sealListAnswer id leave entries)) := by
  simp only [sealListAnswer, wireListAnswerBits]

/-- R21: bus controller and activity at a slot mark, before the membership unit follows it. -/
def atSlotMark (s : State) (answer : Option Answer) : State :=
  s.activity.setBus
    { s.bus with slotMarks := s.bus.slotMarks + 1, slotAnswered := false, answer := answer,
                 drive := afterSlotMark s.bus.drive }

theorem atSlotMark_census (answer : Option Answer) : (s.atSlotMark answer).membership.census = s.membership.census :=
  activity_membership_census s

theorem atSlotMark_link (answer : Option Answer) : (s.atSlotMark answer).membership.link = s.membership.link :=
  activity_membership_link s

theorem followSlot_of_none (h : s.membership.census = none) (k : Nat) : s.followSlot k = s := by
  rw [State.followSlot, h]

theorem followSlot_of_list {r : CensusRecord} (h : s.membership.census = some r) {k : Nat} (hk : k < r.header.slots) :
    s.followSlot k = s.setBus { s.bus with answer := s.listAnswer k } := by
  rw [State.followSlot, h]
  exact if_pos hk

theorem followSlot_of_first_join {r : CensusRecord} (h : s.membership.census = some r) :
    s.followSlot r.header.slots =
      (s.endListSlots r).setBus { (s.endListSlots r).bus with answer := (s.endListSlots r).joinAnswer 0 } := by
  rw [State.followSlot, h]
  dsimp only
  rw [if_neg (Nat.lt_irrefl _), if_pos rfl, Nat.sub_self]

theorem followSlot_of_join {r : CensusRecord} (h : s.membership.census = some r) {k : Nat} (hk : r.header.slots < k) :
    s.followSlot k = s.setBus { s.bus with answer := s.joinAnswer (k - r.header.slots) } := by
  rw [State.followSlot, h]
  dsimp only
  rw [if_neg (Nat.not_lt_of_gt hk), if_neg (Nat.ne_of_gt hk)]

end State

/-- R21, R46, R49: a slot mark in a census at a station in step. -/
theorem exec_slotMark_of_census {s : State} (h : s.Hears) (hphase : s.bus.phase = .census) :
    exec .slotMark s = .next ((s.atSlotMark none).followSlot s.bus.slotMarks) := by
  have hhears : (s.follows && (s.bus.phase == .census)) = true := by rw [h.follows, hphase]; rfl
  show execSlotMark s = _
  rw [execSlotMark, if_pos hhears, State.atSlotMark]

/-- Settles O23. -/
theorem slotMarkOpensTheSlot : Obligations.SlotMarkOpensTheSlot := by
  refine ⟨fun s id leave copy h => ⟨joinAnswerSent_of_list h, _, listAnswerSent_of_list h, rfl, rfl, ?_,
      sealListAnswer_check id leave _⟩,
    fun s id h => ⟨listAnswerSent_of_join h, _, joinAnswerSent_of_join h, rfl, rfl⟩, fun s => answersSent_of_none,
    fun s h hphase => ?_⟩
  · show (listCopy copy).map _ = _
    rw [listCopy, List.map_map]
    rfl
  · intro bus
    refine ⟨fun hnone => ?_, fun r hr => ⟨fun hlist => ?_, fun hjoin => ?_⟩⟩
    · rw [exec_slotMark_of_census h hphase, followSlot_of_none ((atSlotMark_census none).trans hnone)]
      rfl
    · rw [exec_slotMark_of_census h hphase, followSlot_of_list ((atSlotMark_census none).trans hr) hlist, State.listAnswer,
        atSlotMark_link]
      rfl
    · rw [exec_slotMark_of_census h hphase, followSlot_of_join ((atSlotMark_census none).trans hr) hjoin, State.joinAnswer,
        atSlotMark_link]
      rfl

/-! ## The end of the list slots -/

namespace State

variable {s : State}

/-- R60, R160: a note of the membership unit, granted at once. -/
theorem note_granted (n : NoteReason) (h : s.log.records.length < 32) :
    s.note n =
      { s with
        membership := { s.membership with note := none }
        log := { records := s.log.records ++ [s.membershipRecord n], pointer := .membership } } := by
  rw [note_of_room s n h, grant_membership _ rfl]
  rfl

/-- R60: a note of the membership unit that waits. -/
theorem note_waits (n : NoteReason) (h : 32 ≤ s.log.records.length) :
    s.note n = { s with membership := { s.membership with note := some n } } := note_of_full s n h

theorem note_link (s : State) (n : NoteReason) : (s.note n).membership.link = s.membership.link := by
  obtain ⟨-, -, -, m, heq⟩ := s.note_sameStation n
  rw [heq]

theorem compareWithReference_of_same {r : CensusRecord} {reference : List Entry} (h : s.order.list = reference) :
    s.compareWithReference r reference = s := if_pos h

theorem compareWithReference_of_unplaced {r : CensusRecord} {reference : List Entry}
    (h : s.membership.link ≠ .member ∧ s.membership.link ≠ .leaving) : s.compareWithReference r reference = s := by
  unfold State.compareWithReference
  split
  · rfl
  · split
    next hm => exact absurd hm h.1
    next hl => exact absurd hl h.2
    all_goals rfl

theorem compareWithReference_of_member {r : CensusRecord} {reference : List Entry} (hlink : s.membership.link = .member)
    (h : s.order.list ≠ reference) :
    s.compareWithReference r reference =
      (s.setMembership { s.membership with census := some { r with diverged := true } }).enterWithNote .joining .diverged := by
  rw [State.compareWithReference, if_neg h, hlink]

theorem compareWithReference_of_leaving {r : CensusRecord} {reference : List Entry} (hlink : s.membership.link = .leaving)
    (h : s.order.list ≠ reference) : s.compareWithReference r reference = s.enterWithNote .out .left := by
  rw [State.compareWithReference, if_neg h, hlink]

/-- R47: the record as the list slots leave it, a reference not heard being the empty list. -/
def withReference (s : State) (r : CensusRecord) : State :=
  s.setMembership { s.membership with census := some { r with reference := some (r.reference.getD []) } }

theorem endListSlots_of_compared {r : CensusRecord} {t : State}
    (h : (s.withReference r).compareWithReference { r with reference := some (r.reference.getD []) } (r.reference.getD []) = t) :
    s.endListSlots r =
      if t.membership.link = .joining then t.setOrder { t.order with list := r.reference.getD [] } else t := by
  rw [← h]
  rfl

theorem joinAnswer_of_not_joining (h : s.membership.link ≠ .joining) (j : Nat) : s.joinAnswer j = none :=
  if_neg fun hj => h hj.1

theorem joinAnswer_of_joining (h : s.membership.link = .joining) (j : Nat) :
    s.joinAnswer j = if s.straps.id.val = j then some (.join s.straps.id) else none := by
  rw [State.joinAnswer]
  simp only [h, true_and]

end State

/-- Settles O24. -/
theorem endOfTheListSlots : Obligations.EndOfTheListSlots := by
  intro s r h hphase hr hmarks reference bus compared join
  have hcensus := (s.atSlotMark_census none).trans hr
  have hlink : ((s.atSlotMark none).withReference r).membership.link = s.membership.link := s.atSlotMark_link none
  have hfollow : exec .slotMark s = .next
      (((s.atSlotMark none).endListSlots r).setBus
        { ((s.atSlotMark none).endListSlots r).bus with answer := ((s.atSlotMark none).endListSlots r).joinAnswer 0 }) := by
    rw [exec_slotMark_of_census h hphase, hmarks, followSlot_of_first_join hcensus]
  refine ⟨fun hstays => ?_, fun hjoining => ?_, fun hmember hdiffers => ?_, fun hleaving hdiffers => ?_⟩
  · have hno : s.membership.link ≠ .joining := by
      rcases hstays with hl | hl | ⟨hl | hl, -⟩ <;> simp [hl]
    have hsame : ((s.atSlotMark none).withReference r).compareWithReference
        { r with reference := some reference } reference = (s.atSlotMark none).withReference r := by
      rcases hstays with hl | hl | ⟨-, hlist⟩
      · exact compareWithReference_of_unplaced (by rw [hlink, hl]; simp)
      · exact compareWithReference_of_unplaced (by rw [hlink, hl]; simp)
      · exact compareWithReference_of_same hlist
    have hend := (endListSlots_of_compared hsame).trans (if_neg (by rwa [hlink]))
    rw [hfollow, hend, joinAnswer_of_not_joining (by rwa [hlink])]
    rfl
  · have hsame : ((s.atSlotMark none).withReference r).compareWithReference
        { r with reference := some reference } reference = (s.atSlotMark none).withReference r :=
      compareWithReference_of_unplaced (by rw [hlink, hjoining]; simp)
    have hend := (endListSlots_of_compared hsame).trans (if_pos (by rwa [hlink]))
    have hanswer (o : OrderUnit) : (((s.atSlotMark none).withReference r).setOrder o).joinAnswer 0 = join :=
      joinAnswer_of_joining (hlink.trans hjoining) 0
    rw [hfollow, hend, hanswer]
    rfl
  · have hcompared := compareWithReference_of_member (r := { r with reference := some reference }) (hlink.trans hmember)
      (show ((s.atSlotMark none).withReference r).order.list ≠ reference from hdiffers)
    rw [State.enterWithNote] at hcompared
    have hjoin := (endListSlots_of_compared hcompared).trans (if_pos (note_link _ _))
    refine ⟨_, hfollow, ?_⟩
    rw [hjoin, joinAnswer_of_joining (note_link _ _)]
    rcases Nat.lt_or_ge s.log.records.length 32 with hroom | hfull
    · rw [note_granted, note_granted]
      · rfl
      · exact hroom
      · exact hroom
    · rw [note_waits, note_waits]
      · rfl
      · exact hfull
      · exact hfull
  · have hcompared := compareWithReference_of_leaving (r := { r with reference := some reference }) (hlink.trans hleaving)
      (show ((s.atSlotMark none).withReference r).order.list ≠ reference from hdiffers)
    rw [State.enterWithNote] at hcompared
    have hout := (endListSlots_of_compared hcompared).trans (if_neg (by rw [note_link]; simp [State.enter, Membership.enter]))
    rw [hfollow, hout, joinAnswer_of_not_joining (by rw [note_link]; simp [State.enter, Membership.enter])]
    rcases Nat.lt_or_ge s.log.records.length 32 with hroom | hfull
    · rw [note_granted, note_granted]
      · rfl
      · exact hroom
      · exact hroom
    · rw [note_waits, note_waits]
      · rfl
      · exact hfull
      · exact hfull

end Sys2Proof.Machine

namespace Sys2Proof.Machine

open State

/-! ## Answers heard -/

theorem entryOfWire_eq_some_iff (w : WireEntry) (e : Entry) :
    entryOfWire w = some e ↔ (w.id, w.miss.val) = (e.id, e.miss.val) := by
  unfold entryOfWire
  split
  next hlt =>
    rw [Option.some.injEq, Prod.mk.injEq]
    constructor
    · rintro rfl
      exact ⟨rfl, rfl⟩
    · rintro ⟨hid, hmiss⟩
      cases e
      simp only [Entry.mk.injEq]
      exact ⟨hid, Fin.ext hmiss⟩
  next hge =>
    refine iff_of_false (by simp) fun heq => hge ?_
    rw [(Prod.mk.inj heq).2]
    exact e.miss.isLt

theorem mapM_entryOfWire_iff (entries : List WireEntry) (list : List Entry) :
    entries.mapM entryOfWire = some list ↔
      entries.map (fun e => (e.id, e.miss.val)) = list.map fun e => (e.id, e.miss.val) := by
  induction entries generalizing list with
  | nil =>
    cases list with
    | nil => simp
    | cons e rest => simp
  | cons w rest ih =>
    cases list with
    | nil => simp [List.mapM_cons, Option.bind_eq_some_iff]
    | cons e list =>
      have hstep : (w :: rest).mapM entryOfWire = some (e :: list) ↔
          entryOfWire w = some e ∧ rest.mapM entryOfWire = some list := by
        simp [List.mapM_cons, Option.bind_eq_some_iff]
      rw [hstep, entryOfWire_eq_some_iff, ih, List.map_cons, List.map_cons, List.cons.injEq]

theorem listOfCopy_eq_some_iff (entries : List WireEntry) (list : List Entry) :
    listOfCopy entries = some list ↔
      WellFormedList list ∧ entries.map (fun e => (e.id, e.miss.val)) = list.map fun e => (e.id, e.miss.val) := by
  rw [← mapM_entryOfWire_iff]
  constructor
  · exact fun h => (listOfCopy_eq_some h).symm
  · rintro ⟨hwell, hmap⟩
    rw [listOfCopy, hmap]
    exact if_pos ⟨hwell.1, (distinctIds_iff list).2 hwell.2⟩

theorem heardList_eq_some_iff (a : WireListAnswer) (list : List Entry) :
    heardList a = some list ↔
      check16 (wireListAnswerBits a) = a.check ∧ WellFormedList list ∧
        a.entries.map (fun e => (e.id, e.miss.val)) = list.map fun e => (e.id, e.miss.val) := by
  rw [← listOfCopy_eq_some_iff]
  unfold heardList
  split
  next hcheck => simp [hcheck]
  next hcheck => simp [hcheck]

theorem hearList_eq (r : CensusRecord) (i : Nat) (a : HeardAnswer) (list : List Entry) :
    r.hearList i a list =
      { r with answers := r.answers.set i (some a), reference := some (r.reference.getD list) } := by
  cases hr : r.reference <;> simp [CensusRecord.hearList, hr]

theorem mem_hearJoin (r : CensusRecord) (j id : StationId) : id ∈ (r.hearJoin j).joiners ↔ id ∈ r.joiners ∨ id = j := by
  unfold CensusRecord.hearJoin
  dsimp only
  split
  next hin =>
    refine ⟨.inl, fun hor => hor.elim (fun hid => hid) ?_⟩
    rintro rfl
    exact List.contains_iff_mem.1 hin
  next => rw [List.mem_append, List.mem_singleton]

namespace State

theorem slotOpen_iff (s : State) :
    s.slotOpen = true ↔ s.bus.phase = .census ∧ 0 < s.bus.slotMarks ∧ s.bus.slotAnswered = false := by
  simp [State.slotOpen, and_assoc]

theorem takeListAnswer_of_unheard {s : State} {a : WireListAnswer} (h : heardList a = none) (r : CensusRecord) :
    s.takeListAnswer r a = s := by
  rw [State.takeListAnswer, h]

theorem takeListAnswer_of_heard {s : State} {a : WireListAnswer} {list : List Entry} (h : heardList a = some list)
    (r : CensusRecord) :
    s.takeListAnswer r a =
      s.setMembership
        { s.membership with census := some (r.hearList (s.bus.slotMarks - 1) { id := a.id, leave := a.leave } list) } := by
  rw [State.takeListAnswer, h]

end State

section

variable {s : State} (h : s.Hears) (hopen : s.slotOpen = true)

include h hopen

theorem exec_listSlotAnswer_of_none (hnone : s.membership.census = none) {a : WireListAnswer} (ha : a.wellFormed = true) :
    exec (.listSlotAnswer a) s = .next s.activity.markAnswered := by
  show execListSlotAnswer a s = _
  rw [execListSlotAnswer, if_pos ha, if_pos h.follows, if_pos hopen, hnone]

theorem exec_listSlotAnswer_of_record {r : CensusRecord} (hr : s.membership.census = some r) {a : WireListAnswer}
    (ha : a.wellFormed = true) (hslot : s.bus.slotMarks ≤ r.header.slots) :
    exec (.listSlotAnswer a) s = .next (s.activity.markAnswered.takeListAnswer r a) := by
  show execListSlotAnswer a s = _
  rw [execListSlotAnswer, if_pos ha, if_pos h.follows, if_pos hopen, hr]
  exact if_pos hslot

theorem exec_joinSlotAnswer_of_none (hnone : s.membership.census = none) (a : WireJoinAnswer) :
    exec (.joinSlotAnswer a) s = .next s.activity.markAnswered := by
  show execJoinSlotAnswer a s = _
  rw [execJoinSlotAnswer, if_pos h.follows, if_pos hopen, hnone]

theorem exec_joinSlotAnswer_of_record {r : CensusRecord} (hr : s.membership.census = some r) (a : WireJoinAnswer)
    (hslot : r.header.slots < s.bus.slotMarks) :
    exec (.joinSlotAnswer a) s =
      .next (s.activity.markAnswered.takeJoinAnswer r (s.bus.slotMarks - 1 - r.header.slots) a) := by
  show execJoinSlotAnswer a s = _
  rw [execJoinSlotAnswer, if_pos h.follows, if_pos hopen, hr]
  exact if_pos hslot

end

/-- Settles O25. -/
theorem slotAnswersHeard : Obligations.SlotAnswersHeard := by
  refine ⟨fun s h hphase hmarks hanswered => ?_, heardList_eq_some_iff⟩
  intro bus
  have hopen : s.slotOpen = true := (slotOpen_iff s).2 ⟨hphase, hmarks, hanswered⟩
  refine ⟨fun hnone => ⟨fun a ha => exec_listSlotAnswer_of_none h hopen hnone ha,
    fun a => exec_joinSlotAnswer_of_none h hopen hnone a⟩, fun r hr => ⟨fun a ha hslot => ⟨fun hunheard => ?_,
    fun list hheard => ?_⟩, fun a hslot => ⟨fun hcheck hid => ?_, fun hno => ?_⟩⟩⟩
  · rw [exec_listSlotAnswer_of_record h hopen hr ha hslot, takeListAnswer_of_unheard hunheard]
    rfl
  · rw [exec_listSlotAnswer_of_record h hopen hr ha hslot, takeListAnswer_of_heard hheard, hearList_eq]
    rfl
  · refine ⟨(r.hearJoin a.id).joiners, mem_hearJoin r a.id, ?_⟩
    rw [exec_joinSlotAnswer_of_record h hopen hr a hslot]
    exact congrArg _ (if_pos ⟨hcheck, hid⟩)
  · rw [exec_joinSlotAnswer_of_record h hopen hr a hslot]
    exact congrArg _ (if_neg hno)

/-! ## The new list -/

theorem survives_of_leave {answers : List (Option HeardAnswer)} {i : Nat} {e : Entry}
    (h : answers[i]? = some (some { id := e.id, leave := true })) : survives answers i e = none := by
  rw [survives, h]
  exact (if_pos rfl).trans (if_pos rfl)

theorem survives_of_answered {answers : List (Option HeardAnswer)} {i : Nat} {e : Entry}
    (h : answers[i]? = some (some { id := e.id, leave := false })) : survives answers i e = some { e with miss := 0 } := by
  rw [survives, h]
  exact (if_pos rfl).trans (if_neg (by simp))

theorem survives_of_missed {answers : List (Option HeardAnswer)} {i : Nat} {e : Entry}
    (h : ∀ leave, answers[i]? ≠ some (some { id := e.id, leave := leave })) : survives answers i e = missOnce e := by
  unfold survives
  split
  next a ha =>
    refine if_neg fun hid => h a.leave ?_
    rw [ha, ← hid]
  all_goals rfl

theorem missOnce_of_zero {e : Entry} (h : e.miss = 0) : missOnce e = some { e with miss := 1 } := by
  obtain ⟨id, miss⟩ := e
  cases h
  rfl

theorem missOnce_of_one {e : Entry} (h : e.miss = 1) : missOnce e = some { e with miss := 2 } := by
  obtain ⟨id, miss⟩ := e
  cases h
  rfl

theorem missOnce_of_two {e : Entry} (h : e.miss = 2) : missOnce e = none := by
  obtain ⟨id, miss⟩ := e
  cases h
  rfl

/-- Settles O26. -/
theorem newListOfACensus : Obligations.NewListOfACensus := by
  refine ⟨fun answers i e => ⟨survives_of_leave, survives_of_answered, fun hmissed => ?_⟩, fun r => ?_,
    fun r hr => newList_wellFormed (reference_wellFormed hr)⟩
  · rw [survives_of_missed hmissed]
    exact ⟨missOnce_of_zero, missOnce_of_one, missOnce_of_two⟩
  · intro kept joined
    have hkept : keptEntries r = kept := by
      rw [keptEntries, survivors_eq_filterMap]
    refine ⟨fun hrotate => ?_, fun hfixed => ?_⟩
    · rw [newList_rotate hrotate, hkept]
      rfl
    · rw [newList_fixed hfixed, hkept]
      refine ⟨fun e => mem_of_mem_ascending, ?_, fun e he hwell => mem_ascending ?_ he⟩
      · have hsorted := ascending_ids_pairwise (kept ++ joinerEntries r.joiners)
        rw [List.pairwise_map] at hsorted ⊢
        exact hsorted
      · rw [← hkept]
        exact kept_append_joiners_nodup hwell

/-! ## The census end -/

/-- R50 to R54: an end mark in a census at a station in step. -/
theorem exec_endMark_of_census {s : State} (h : s.Hears) (hphase : s.bus.phase = .census) :
    exec .endMark s = .next (s.activity.censusEnd.setBus s.bus.endCensus) := by
  have hhears : (s.follows && (s.bus.phase == .census)) = true := by rw [h.follows, hphase]; rfl
  show execEndMark s = _
  rw [execEndMark, if_pos hhears]

namespace State

variable {s before : State} {r : CensusRecord}

theorem censusEnd_of_none (h : s.membership.census = none) : s.censusEnd = s := by
  rw [State.censusEnd, h]

theorem censusEnd_of_record (h : s.membership.census = some r) :
    s.censusEnd = (s.installCensus r).linkAtCensusEnd s r := by
  rw [State.censusEnd, h]

theorem linkAtCensusEnd_of_joining (h : s.membership.link = .joining) :
    s.linkAtCensusEnd before r =
      if s.ownRank.isSome then s.enterWithNote .member (if r.header.slots = 0 then .formed else .joined)
      else s.enter .listening none := by
  rw [State.linkAtCensusEnd, h]

theorem linkAtCensusEnd_of_member (h : s.membership.link = .member) :
    s.linkAtCensusEnd before r =
      if s.ownRank.isSome then if s.memberCount = before.memberCount then s else s.note .listChanged
      else s.enterWithNote .listening .struck := by
  rw [State.linkAtCensusEnd, h]

theorem linkAtCensusEnd_of_leaving (h : s.membership.link = .leaving) :
    s.linkAtCensusEnd before r =
      if leaveHeard r s.straps.id before.ownRank || s.ownRank.isNone then s.enterWithNote .out .left else s := by
  rw [State.linkAtCensusEnd, h]

theorem linkAtCensusEnd_of_unplaced (h : s.membership.link = .listening ∨ s.membership.link = .out) :
    s.linkAtCensusEnd before r = s := by
  rcases h with h | h <;> rw [State.linkAtCensusEnd, h]

end State

theorem leaveHeard_iff (r : CensusRecord) (id : StationId) (rank : Option Nat) :
    leaveHeard r id rank = true ↔ ∃ i, rank = some i ∧ r.answers[i]? = some (some { id := id, leave := true }) := by
  cases rank <;> simp [leaveHeard]

/-- Settles O27. -/
theorem censusEnd : Obligations.CensusEnd := by
  intro s h hphase bus
  refine ⟨fun hnone => ?_, fun r hr => ?_⟩
  · rw [exec_endMark_of_census h hphase, censusEnd_of_none ((activity_membership_census s).trans hnone)]
    rfl
  · intro adopted installed within left
    have hend : exec .endMark s = .next
        (((s.activity.installCensus r).linkAtCensusEnd s.activity r).setBus s.bus.endCensus) := by
      rw [exec_endMark_of_census h hphase, censusEnd_of_record ((activity_membership_census s).trans hr)]
    have hlink : (s.activity.installCensus r).membership.link = s.membership.link := activity_membership_link s
    have hwithin : (s.activity.installCensus r).ownRank.isSome = true ↔ within := ownRank_isSome_iff _
    have hleft : (leaveHeard r (s.activity.installCensus r).straps.id s.activity.ownRank ||
        (s.activity.installCensus r).ownRank.isNone) = true ↔ (∃ i, s.ownRank = some i ∧ left i) ∨ ¬ within := by
      rw [Bool.or_eq_true, leaveHeard_iff, ← hwithin, ← Option.not_isSome, Bool.not_eq_true', Bool.not_eq_true]
      rfl
    rw [hend]
    refine ⟨fun hl hin => ⟨if r.header.slots = 0 then .formed else .joined, fun hzero => if_pos hzero,
      fun hsome => if_neg hsome, ?_⟩, fun hl hout => ?_, fun hl hin hsame => ?_, fun hl hin hother => ?_, fun hl hout => ?_,
      fun hl hgone => ?_, fun hl hin hstays => ?_, fun hl => ?_⟩
    · rw [linkAtCensusEnd_of_joining (hlink.trans hl), if_pos (hwithin.2 hin)]
      rfl
    · rw [linkAtCensusEnd_of_joining (hlink.trans hl), if_neg fun hin => hout (hwithin.1 hin)]
      rfl
    · rw [linkAtCensusEnd_of_member (hlink.trans hl), if_pos (hwithin.2 hin)]
      exact congrArg (fun t => Host.Outcome.next (State.setBus t bus)) (if_pos hsame)
    · rw [linkAtCensusEnd_of_member (hlink.trans hl), if_pos (hwithin.2 hin)]
      exact congrArg (fun t => Host.Outcome.next (State.setBus t bus)) (if_neg hother)
    · rw [linkAtCensusEnd_of_member (hlink.trans hl), if_neg fun hin => hout (hwithin.1 hin)]
      rfl
    · rw [linkAtCensusEnd_of_leaving (hlink.trans hl), if_pos (hleft.2 hgone.symm)]
      rfl
    · rw [linkAtCensusEnd_of_leaving (hlink.trans hl), if_neg fun hgone => (hleft.1 hgone).elim
        (fun ⟨i, hi, hlefti⟩ => hstays i hi hlefti) fun hout => hout hin]
      rfl
    · rw [linkAtCensusEnd_of_unplaced (by rwa [hlink])]
      rfl

/-! ## Silences, collisions and timers -/

namespace State

theorem abandonCensus_eq (s : State) :
    s.abandonCensus =
      { s with
        bus := s.bus.endCensus
        membership :=
          if s.membership.link = .joining then
            { s.membership with census := none, link := .listening, idleTimer := .stopped,
                                formationTimer := .running, idleWant := false, formationWant := false }
          else { s.membership with census := none } } := by
  unfold State.abandonCensus State.censusAbandoned
  by_cases h : s.membership.link = .joining
  · rw [if_pos h, if_pos (show (s.setMembership { s.membership with census := none }).membership.link = .joining from h)]
    rfl
  · rw [if_neg h, if_neg (show ¬ (s.setMembership { s.membership with census := none }).membership.link = .joining from h)]
    rfl

end State

/-- Settles O28. -/
theorem silenceEndsContestOrCensus : Obligations.SilenceEndsContestOrCensus := by
  refine fun s h => ⟨fun hphase => ?_, fun hphase => ?_⟩
  · exact (if_pos h.follows).trans (if_pos hphase)
  · have hexec : exec .censusAbandonSilence s = .next s.abandonCensus := (if_pos h.follows).trans (if_pos hphase)
    rw [hexec, abandonCensus_eq]
    rfl

theorem drivesCensusPart_of {part : CensusPart} (h : part = .header ∨ part = .endMark ∨ ∃ k, part = .slotMark k) :
    drivesCensusPart part = true := by
  rcases h with rfl | rfl | ⟨k, rfl⟩ <;> rfl

/-- Settles O29. -/
theorem echoMismatchInCensus : Obligations.EchoMismatchInCensus := by
  refine ⟨fun s a hphase hanswer => ?_, fun s h part hphase hanswer hdrive hpart => ?_⟩
  · show execEchoMismatchCensus s = _
    rw [execEchoMismatchCensus, hphase, hanswer]
    rfl
  · have hexec : exec .echoMismatchCensus s = .next (s.setBus { s.bus with drive := .nothing }).censusCollision := by
      show execEchoMismatchCensus s = _
      rw [execEchoMismatchCensus, hphase, hanswer, hdrive]
      exact if_pos (drivesCensusPart_of hpart)
    refine ⟨s.membership.census.map fun r => { r with collided := true }, Option.isSome_map .., fun r q hr hq => ?_,
      fun hl => ?_, fun hl => ?_, fun hl => ?_⟩
    · rw [hr] at hq
      exact (Option.some.inj hq).symm
    · rw [hexec, State.censusCollision]
      simp only [setMembership_membership, setBus_membership, hl]
      rfl
    · rw [hexec, State.censusCollision]
      rcases hl with hl | hl | hl
      all_goals
        simp only [setMembership_membership, setBus_membership, hl]
        rfl
    · rw [hexec, State.censusCollision]
      simp only [setMembership_membership, setBus_membership, hl]
      rfl

namespace Membership

variable {m : Membership}

theorem activity_of_placed (h : m.link = .member ∨ m.link = .leaving) : m.activity = { m with idleTimer := .running } := by
  rcases h with h | h <;> rw [Membership.activity, h]

theorem activity_of_listening (h : m.link = .listening) : m.activity = { m with formationTimer := .running } := by
  rw [Membership.activity, h]

theorem activity_of_other (h : m.link = .joining ∨ m.link = .out ∨ m.link = .down) : m.activity = m := by
  rcases h with h | h | h <;> rw [Membership.activity, h]

end Membership

/-- Settles O30. -/
theorem membershipTimers : Obligations.MembershipTimers :=
  ⟨fun _ hrunning => if_pos hrunning, fun _ hrunning => if_pos hrunning,
    fun _ => ⟨Membership.activity_of_placed, Membership.activity_of_listening, Membership.activity_of_other⟩⟩

end Sys2Proof.Machine

namespace Sys2Proof.Machine

open State

/-! ## Resets -/

theorem sampleStraps_id (p : StrapPins) :
    (sampleStraps p).id.val =
      (if p.sid3 then 8 else 0) + (if p.sid2 then 4 else 0) + (if p.sid1 then 2 else 0) + (if p.sid0 then 1 else 0) := by
  show (8 * flagCode p.sid3 + 4 * flagCode p.sid2 + 2 * flagCode p.sid1 + flagCode p.sid0) % 16 = _
  cases p.sid3 <;> cases p.sid2 <;> cases p.sid1 <;> cases p.sid0 <;> rfl

/-- R37, R62: a station that comes up, with the timer of its link state and no want. -/
theorem State.comeUp_eq (s : State) (p : StrapPins) :
    s.comeUp p =
      { s with
        straps := sampleStraps p
        membership :=
          { s.membership with
            link := if p.autoJ then .listening else .out
            lastReason := .reset
            mode := (sampleStraps p).mode
            interval := (sampleStraps p).interval
            idleTimer := .stopped
            formationTimer := if p.autoJ then .running else .stopped
            idleWant := false
            formationWant := false } } := by
  have hauto : (sampleStraps p).autoJoin = p.autoJ := rfl
  simp only [State.comeUp, State.enter, Membership.enter, hauto]
  cases p.autoJ <;> rfl

/-- Settles O31. -/
theorem pinReset : Obligations.PinReset := by
  refine ⟨fun s => rfl, fun s p hdown => ⟨?_, rfl, rfl, rfl, rfl, rfl, rfl, rfl, sampleStraps_id p⟩⟩
  have hexec : exec (.resetReleased p) s = .next (s.comeUp p) := if_pos hdown
  rw [hexec, State.comeUp_eq]
  rfl

/-- Settles O32: the log is empty when the RESET note is made, so that it is granted at once. -/
theorem stationReset : Obligations.StationReset := by
  intro s p hup
  have hexec : exec (.stationReset p) s = .next
      (((s.clearBlocks.setPort s.port.stationReset).comeUp p).note (.change .reset)) := if_neg hup
  rw [hexec, note_granted, State.comeUp_eq]
  · rfl
  · exact Nat.zero_lt_succ 31

/-! ## PACE and read points -/

namespace State

variable {s : State} {c : ChannelNo} {seg : Segment}

theorem requestRead_of_current (h : (s.chan c).current = some seg) :
    s.requestRead c =
      { s with
        channels := s.channels.set c { s.chan c with readOutstanding := true }
        port := s.port.requestRead c { addr := seg.pointer, count := min 64 seg.unread } } := by
  rw [State.requestRead, h]
  rfl

theorem readPoint_of_outstanding (h : (s.chan c).current = some seg) (hread : (s.chan c).readOutstanding = true) :
    s.readPoint c = s.setChan c { s.chan c with deferred := true } := by
  rw [State.readPoint, h]
  exact if_pos hread

theorem readPoint_of_running (h : (s.chan c).current = some seg) (hread : (s.chan c).readOutstanding = false)
    (hpace : seg.record.pacing = .free ∨ s.pace[c] = true) : s.readPoint c = s.requestRead c := by
  rw [State.readPoint, h]
  dsimp only
  rw [if_neg (by simp [hread])]
  cases hpacing : seg.record.pacing with
  | free => rfl
  | paced =>
    rw [hpacing] at hpace
    rw [hpace.resolve_left (by simp)]

theorem readPoint_of_held (h : (s.chan c).current = some seg) (hread : (s.chan c).readOutstanding = false)
    (hpacing : seg.record.pacing = .paced) (hpace : s.pace[c] = false) :
    s.readPoint c = if (s.chan c).buffer.isEmpty then s else s.setChan c { s.chan c with state := .ready } := by
  rw [State.readPoint, h]
  dsimp only
  rw [if_neg (by simp [hread]), hpacing, hpace]

end State

theorem waitsForPace_iff (ch : Channel) :
    ch.waitsForPace = true ↔
      ch.state = .assembling ∧ ch.readOutstanding = false ∧ ∃ seg, ch.current = some seg ∧ seg.record.pacing = .paced := by
  rw [Channel.waitsForPace, Bool.and_eq_true, Bool.and_eq_true, beq_iff_eq, Bool.not_eq_true', and_assoc]
  refine and_congr_right' (and_congr_right' ?_)
  cases ch.current <;> simp

/-- Settles O33. -/
theorem paceInput : Obligations.PaceInput := by
  intro s c level
  have hwaits : (level && ((s.setPace (s.pace.set c level)).chan c).waitsForPace) = true ↔
      level = true ∧ (s.chan c).state = .assembling ∧ (s.chan c).readOutstanding = false ∧
        ∃ seg, (s.chan c).current = some seg ∧ seg.record.pacing = .paced := by
    rw [Bool.and_eq_true, waitsForPace_iff]
    rfl
  refine ⟨fun seg hactive hstate hread hseg hpacing => ?_, fun hno => ?_⟩
  · have hexec : exec (.paceActive c level) s = .next ((s.setPace (s.pace.set c level)).requestRead c) :=
      if_pos (hwaits.2 ⟨hactive, hstate, hread, seg, hseg, hpacing⟩)
    exact hexec.trans (congrArg _ (requestRead_of_current (s := s.setPace (s.pace.set c level)) hseg))
  · exact if_neg fun hyes => hno (hwaits.1 hyes)

/-- Settles O34. -/
theorem readPointAndSegmentStart : Obligations.ReadPointAndSegmentStart := by
  refine ⟨fun s c seg hseg => ⟨fun hread => readPoint_of_outstanding hseg hread, fun hread => ⟨fun hpace => ?_,
    fun hpacing hpace => ⟨fun hheld => ?_, fun hnone => ?_⟩⟩⟩, fun s c r staged => rfl⟩
  · rw [readPoint_of_running hseg hread hpace, requestRead_of_current hseg]
  · exact (readPoint_of_held hseg hread hpacing hpace).trans (if_neg (by simpa using hheld))
  · exact (readPoint_of_held hseg hread hpacing hpace).trans (if_pos (by simp [hnone]))

/-! ## Reads -/

theorem lt_four_cases {k : Nat} (h : k < 4) : k = 0 ∨ k = 1 ∨ k = 2 ∨ k = 3 := by omega

theorem flatMap_wordBytes_getElem? (words : List Word) (k : Nat) :
    (words.flatMap wordBytes)[k]? = words[k / 4]?.map fun word => byteOf word (k % 4) := by
  induction words generalizing k with
  | nil => simp
  | cons w rest ih =>
    rw [List.flatMap_cons]
    rcases Nat.lt_or_ge k 4 with hk | hk
    · rw [List.getElem?_append_left hk, Nat.div_eq_of_lt hk, Nat.mod_eq_of_lt hk]
      rcases lt_four_cases hk with rfl | rfl | rfl | rfl <;> rfl
    · obtain ⟨j, rfl⟩ := Nat.exists_eq_add_of_le' hk
      rw [List.getElem?_append_right hk, Nat.add_div_right j (by decide), Nat.add_mod_right, List.getElem?_cons_succ]
      exact ih j

theorem readBytes_getElem? {a n i : Nat} {words : List Word} (hi : i < n) :
    (readBytes a n words)[i]? = words[(a % 4 + i) / 4]?.map fun word => byteOf word ((a + i) % 4) := by
  rw [readBytes, List.getElem?_take_of_lt hi, List.getElem?_drop, flatMap_wordBytes_getElem?, Nat.mod_add_mod]

theorem currentRead_of_delivery {s : State} {c : ChannelNo} {r : ReadRequest} {seg : Segment}
    (hflight : s.port.inFlight = some (.read c r)) (horphan : s.port.orphan = false)
    (hstate : (s.chan c).state = .assembling) (hdeferred : (s.chan c).deferred = false)
    (hseg : (s.chan c).current = some seg) : s.currentRead = some (c, r, seg) :=
  currentRead_eq_some.2 ⟨hflight, horphan, Channel.not_stale_iff.2 ⟨hstate, hdeferred⟩, hseg⟩

/-- Settles O35. -/
theorem frameReadCompletion : Obligations.FrameReadCompletion := by
  refine ⟨fun s c r seg words hflight horphan hstate hdeferred hseg hwell hlength => ?_, fun a n words hlength =>
    ⟨readBytes_length hlength, fun i hi => ?_⟩⟩
  · intro bytes frame taken
    have hcurrent := currentRead_of_delivery hflight horphan hstate hdeferred hseg
    have hexec : exec (.frameReadCompletion words) s = .next (s.takeFrame c seg frame).finishAccess := by
      show execFrameReadCompletion words s = _
      rw [execFrameReadCompletion, if_pos hwell, hcurrent]
      exact if_pos hlength
    have hcomplete : (seg.record.tenureSize ≤ ((s.chan c).buffer ++ [frame]).length ∨ frame.last = true) ↔
        (seg.record.tenureSize ≤ (s.chan c).buffer.length + 1 ∨ seg.unread - bytes.length = 0) := by
      rw [List.length_append, decide_eq_true_eq]
      rfl
    rw [hexec]
    refine ⟨fun hfull => ?_, fun hmore => ⟨_, rfl, ?_⟩⟩
    · exact congrArg (fun t => Host.Outcome.next (State.finishAccess t)) (if_pos (hcomplete.2 hfull))
    · exact congrArg (fun t => Host.Outcome.next (State.finishAccess t)) (if_neg fun hfull => hmore (hcomplete.1 hfull))
  · have hin : (a % 4 + i) / 4 < words.length := by
      rw [hlength, accessSpan]
      omega
    refine ⟨words[(a % 4 + i) / 4], List.getElem?_eq_getElem hin, ?_⟩
    rw [readBytes_getElem? hi, List.getElem?_eq_getElem hin]
    rfl

theorem exec_staleReadCompletion_of_stale {s : State} {c : ChannelNo} {r : ReadRequest}
    (hflight : s.port.inFlight = some (.read c r)) (horphan : s.port.orphan = false)
    (hstale : (s.chan c).readIsStale = true) : exec .staleReadCompletion s = .next (s.dropStale c).finishAccess := by
  show execStaleReadCompletion s = _
  rw [execStaleReadCompletion, hflight, horphan]
  exact if_pos hstale

/-- Settles O36. -/
theorem readFaultAndStaleRead : Obligations.ReadFaultAndStaleRead := by
  refine ⟨fun s c r seg hflight horphan hstate hdeferred hseg => ⟨_, rfl, ?_⟩, fun s c r hflight horphan =>
    ⟨fun hstate hdeferred => ?_, fun hdeferred => ⟨_, rfl, ?_⟩⟩⟩
  · show execReadFault s = _
    rw [execReadFault, currentRead_of_delivery hflight horphan hstate hdeferred hseg]
    rfl
  · rw [exec_staleReadCompletion_of_stale hflight horphan (Channel.stale_of_not_assembling hstate)]
    have hno : ¬ (s.chan c).deferred = true := by simp [hdeferred]
    have hsame : ({ s.chan c with readOutstanding := false, deferred := false } : Channel) =
        { s.chan c with readOutstanding := false } := by rw [← hdeferred]
    have hdrop : s.dropStale c = s.setChan c { s.chan c with readOutstanding := false } := by
      rw [← hsame]
      exact if_neg hno
    rw [hdrop]
    rfl
  · have hstale : (s.chan c).readIsStale = true := by simp [Channel.readIsStale, hdeferred]
    rw [exec_staleReadCompletion_of_stale hflight horphan hstale]
    exact congrArg (fun t => Host.Outcome.next (State.finishAccess t)) (if_pos hdeferred)

end Sys2Proof.Machine

namespace Sys2Proof.Machine

open State

/-! ## The landing writer -/

section

variable {x : Window} {f : QueuedFrame}

theorem splitAt_eq_none_iff : splitAt x f = none ↔ ¬ (x.kind = .ring ∧ x.size < f.ringPos + f.payload.length) := by
  unfold splitAt
  split
  next hsplit => simp [hsplit]
  next hwhole => simp [hwhole]

theorem splitAt_of_past (hring : x.kind = .ring) (hpast : x.size < f.ringPos + f.payload.length) :
    splitAt x f = some (x.size - f.ringPos) := if_pos ⟨hring, hpast⟩

/-- Figure 8-2: a frame that is not split is written whole, at its place. -/
theorem firstPart_of_whole (h : splitAt x f = none) :
    firstPart x f =
      { addr := x.base.toNat + if x.kind = .ring then f.ringPos else f.target.toNat, bytes := f.payload } := by
  rw [firstPart, h]

theorem firstPart_of_split {n : Nat} (h : splitAt x f = some n) :
    firstPart x f =
      { addr := x.base.toNat + if x.kind = .ring then f.ringPos else f.target.toNat, bytes := f.payload.take n } := by
  rw [firstPart, h]

theorem secondPart_of_split {n : Nat} (h : splitAt x f = some n) :
    secondPart x f = { addr := x.base.toNat, bytes := f.payload.drop n } := by
  rw [secondPart, h]

end

namespace State

variable {s : State}

theorem writerAct_of_released {f : QueuedFrame} {rest : List QueuedFrame} (hqueue : s.landing.queue = f :: rest)
    (hidle : s.landing.writer = .idle) (hreleased : f.released = true) :
    s.writerAct =
      (s.setLanding { s.landing with writer := .first }).setPort (s.port.requestWrite (firstPart (s.win f.window) f)) := by
  rw [State.writerAct, hqueue, hidle]
  exact if_pos hreleased

theorem currentWrite_of_delivery {w : WriteRequest} {f : QueuedFrame} {rest : List QueuedFrame}
    (hflight : s.port.inFlight = some (.write w)) (horphan : s.port.orphan = false)
    (hqueue : s.landing.queue = f :: rest) (hbusy : s.landing.writer ≠ .idle) : s.currentWrite = some (w, f) :=
  currentWrite_eq_some.2 ⟨hflight, horphan, ⟨rest, hqueue⟩, hbusy⟩

theorem lastPart_iff (s : State) (f : QueuedFrame) :
    s.lastPart f = true ↔ s.landing.writer = .second ∨ splitAt (s.win f.window) f = none := by
  rw [State.lastPart, Bool.or_eq_true, beq_iff_eq, Option.isNone_iff_eq_none]

end State

/-- Settles O37. -/
theorem landingWriter : Obligations.LandingWriter := by
  refine ⟨fun x f => ⟨fun hkind => ?_, fun hring hfits => ?_, fun hring hpast => ?_⟩,
    fun s f rest hqueue => ⟨fun hidle hreleased => writerAct_of_released hqueue hidle hreleased, fun hquiet => ?_⟩,
    fun s hempty => ?_, fun s w f rest hflight horphan hqueue hfirst hsplit => ?_⟩
  · have hwhole : splitAt x f = none := splitAt_eq_none_iff.2 fun hring => hkind hring.1
    exact ⟨hwhole, by rw [firstPart_of_whole hwhole, if_neg hkind]⟩
  · have hwhole : splitAt x f = none := splitAt_eq_none_iff.2 fun hsplit => Nat.not_lt.2 hfits hsplit.2
    exact ⟨hwhole, by rw [firstPart_of_whole hwhole, if_pos hring]⟩
  · have hsplit := splitAt_of_past hring hpast
    exact ⟨by rw [hsplit]; rfl, by rw [firstPart_of_split hsplit, if_pos hring], secondPart_of_split hsplit⟩
  · refine writerAct_of_quiet fun g others heq => ?_
    rw [hqueue] at heq
    cases heq
    exact hquiet
  · refine writerAct_of_quiet fun g others heq => ?_
    rw [hempty] at heq
    cases heq
  · have hnotLast : ¬ s.lastPart f = true := fun hlast => by
      rcases (s.lastPart_iff f).1 hlast with hsecond | hwhole
      · rw [hfirst] at hsecond
        cases hsecond
      · rw [hwhole] at hsplit
        cases hsplit
    show execSplitFirstPartCompletion s = _
    rw [execSplitFirstPartCompletion, currentWrite_of_delivery hflight horphan hqueue (by simp [hfirst])]
    exact if_neg hnotLast

/-! ## The completion of a landing write -/

namespace State

variable {s : State}

theorem makesProgress_iff (s : State) (f : QueuedFrame) :
    s.makesProgress f = true ↔
      ((s.win f.window).notify = .eachTenure ∧ ∀ g ∈ s.landing.queue, g.tenure ≠ f.tenure) ∨
        ((s.win f.window).notify = .segmentEnd ∧ f.last = true) := by
  unfold State.makesProgress
  split
  next h => simp [h]
  next h => simp [h]
  next h => simp [h]

theorem hasQueued_iff (s : State) (w : WindowNo) : s.hasQueued w = true ↔ ∃ f ∈ s.landing.queue, f.window = w := by
  simp [State.hasQueued]

theorem becomesFull_iff (x : Window) :
    x.becomesFull = true ↔ x.kind = .once ∧ x.state = .opened ∧ x.visible.toNat = x.size := by
  simp [Window.becomesFull, and_assoc]

/-- R143: the note of the window after PROGRESS has been tested. -/
def progressNote (s : State) (f : QueuedFrame) : Option WindowEvent :=
  if s.makesProgress f then some (mergeEvent (s.win f.window).note .progress) else (s.win f.window).note

/-- R143: the window after the note test, PROGRESS first and FULL after it. -/
def notedWindow (s : State) (f : QueuedFrame) : Window :=
  { s.win f.window with
    state := if (s.win f.window).becomesFull then .full else (s.win f.window).state
    note := if (s.win f.window).becomesFull then some (mergeEvent (s.progressNote f) .full) else s.progressNote f }

theorem noteTest_eq (s : State) (f : QueuedFrame) : s.noteTest f = s.setWin f.window (s.notedWindow f) := by
  have hprogress : (if s.makesProgress f then s.windowEvent f.window .progress else s) =
      s.setWin f.window { s.win f.window with note := s.progressNote f } := by
    unfold State.progressNote
    split
    · rfl
    · exact (setWin_win s f.window).symm
  have hsame : ({ s.win f.window with note := s.progressNote f } : Window).becomesFull = (s.win f.window).becomesFull := rfl
  unfold State.noteTest State.notedWindow
  dsimp only
  rw [hprogress, win_setWin_same, hsame]
  split
  · simp [State.windowEvent]
  · rfl

/-- R145: the window after the drain test. -/
theorem drainTest_of_drained {w : WindowNo} (hclosing : (s.win w).state = .closing) (hempty : s.hasQueued w = false) :
    s.drainTest w = s.setWin w { s.win w with state := .closed, note := some (mergeEvent (s.win w).note .closed) } := by
  rw [State.drainTest, if_pos ⟨hclosing, hempty⟩]
  simp [State.windowEvent]

theorem drainTest_of_other {w : WindowNo} (h : ¬ ((s.win w).state = .closing ∧ s.hasQueued w = false)) :
    s.drainTest w = s := if_neg h

theorem frameWritten_queue {f : QueuedFrame} {rest : List QueuedFrame} (h : s.landing.queue = f :: rest) :
    (s.frameWritten f).landing.queue = rest := by
  show s.landing.queue.tail = rest
  rw [h]
  rfl

/-- R141: a written frame's window may be rewritten once more. -/
theorem setWin_frameWritten {f : QueuedFrame} {rest : List QueuedFrame} (h : s.landing.queue = f :: rest) (x : Window) :
    (s.frameWritten f).setWin f.window x =
      { s with
        landing :=
          { s.landing with windows := s.landing.windows.set f.window x, queue := rest, writer := .idle } } := by
  simp [State.frameWritten, State.setWin, State.setLanding, h]

/-- R143, R145: the window of a written frame once note test and drain test are made. -/
theorem drainTest_noteTest {f : QueuedFrame} :
    (s.noteTest f).drainTest f.window =
      s.setWin f.window
        (if (s.win f.window).state = .closing ∧ s.hasQueued f.window = false then
          { s.notedWindow f with state := .closed, note := some (mergeEvent (s.notedWindow f).note .closed) }
        else s.notedWindow f) := by
  have hqueued (x : Window) : (s.setWin f.window x).hasQueued f.window = s.hasQueued f.window := rfl
  have hclosing : (s.notedWindow f).state = .closing ↔ (s.win f.window).state = .closing := by
    show (if (s.win f.window).becomesFull then WindowState.full else (s.win f.window).state) = .closing ↔ _
    split
    next hfull => simp [((becomesFull_iff _).1 hfull).2.1]
    next => exact Iff.rfl
  rw [noteTest_eq]
  by_cases hdrained : (s.win f.window).state = .closing ∧ s.hasQueued f.window = false
  · rw [if_pos hdrained, drainTest_of_drained]
    · rw [win_setWin_same, setWin_setWin]
    · rw [win_setWin_same, hclosing]
      exact hdrained.1
    · rw [hqueued]
      exact hdrained.2
  · rw [if_neg hdrained, drainTest_of_other]
    rwa [win_setWin_same, hclosing, hqueued]

end State

/-- Settles O38. -/
theorem landingWriteCompletion : Obligations.LandingWriteCompletion := by
  intro s w f rest hflight horphan hqueue hpart
  have hbusy : s.landing.writer ≠ .idle := by
    rcases hpart with hsecond | ⟨hfirst, -⟩
    · simp [hsecond]
    · simp [hfirst]
  have hlast : s.lastPart f = true := (s.lastPart_iff f).2 (hpart.imp_right And.right)
  have hexec : exec .landingWriteCompletion s = .next
      (((((s.frameWritten f).noteTest f).drainTest f.window).offer (.window f.window)).writerAct).finishAccess := by
    show execLandingWriteCompletion s = _
    rw [execLandingWriteCompletion, currentWrite_of_delivery hflight horphan hqueue hbusy]
    exact if_pos hlast
  have hrest := frameWritten_queue hqueue
  have hwin : (s.frameWritten f).win f.window =
      { s.win f.window with visible := (s.win f.window).visible + BitVec.ofNat 32 f.payload.length } :=
    (win_frameWritten s f f.window).trans (if_pos rfl)
  have hclosing : ((s.frameWritten f).win f.window).state = .closing ∧ (s.frameWritten f).hasQueued f.window = false ↔
      decide ((s.win f.window).state = .closing ∧ ∀ g ∈ rest, g.window ≠ f.window) = true := by
    rw [decide_eq_true_iff, ← Bool.not_eq_true, hasQueued_iff, hrest, hwin]
    simp
  refine ⟨(s.frameWritten f).makesProgress f, ((s.frameWritten f).win f.window).becomesFull,
    decide ((s.win f.window).state = .closing ∧ ∀ g ∈ rest, g.window ≠ f.window), ?_, ?_, decide_eq_true_iff, ?_⟩
  · rw [makesProgress_iff, hrest, hwin]
  · rw [becomesFull_iff, hwin]
  · rw [hexec, drainTest_noteTest, setWin_frameWritten hqueue, ite_congr_of_iff hclosing rfl rfl]
    dsimp only
    congr 6
    unfold State.notedWindow State.progressNote
    by_cases hclosed : (s.win f.window).state = .closing ∧ ∀ g ∈ rest, g.window ≠ f.window
    · have hnotFull : ((s.frameWritten f).win f.window).becomesFull = false := by
        rw [← Bool.not_eq_true, becomesFull_iff, hwin]
        exact fun hfull => by rw [hclosed.1] at hfull; cases hfull.2.1
      simp only [decide_eq_true hclosed, if_true, hnotFull, Bool.false_eq_true, if_false]
      simp only [hwin]
    · simp only [hclosed, decide_false, Bool.false_eq_true, if_false]
      simp only [hwin]

end Sys2Proof.Machine

namespace Sys2Proof.Machine

/-! ## Write faults, the arbiter, and the words of an access -/

/-- Settles O39. -/
theorem writeFault : Obligations.WriteFault := by
  intro s w f rest hflight horphan hqueue hbusy
  have hany : (s.landing.queue.any fun g => (g.window == f.window) && !g.released) = true ↔
      ∃ g ∈ s.landing.queue, g.window = f.window ∧ g.released = false := by
    simp
  refine ⟨s.voteAfterFault f.window, fun v hvote => ⟨fun hremoved => ?_, fun hkept => ?_⟩, fun hnone => ?_, ?_⟩
  · rw [State.voteAfterFault, hvote, Option.map_some, if_pos (hremoved.imp_right hany.2)]
  · rw [State.voteAfterFault, hvote, Option.map_some, if_neg fun hremoved => hkept (hremoved.imp_right hany.1)]
  · rw [State.voteAfterFault, hnone, Option.map_none]
  · intro address faulted
    show execWriteFault s = _
    rw [execWriteFault, State.currentWrite_of_delivery hflight horphan hqueue hbusy]
    dsimp only
    rw [State.faultWindow_eq]
    rfl

/-- Settles O40. -/
theorem arbiterAndOrphan : Obligations.ArbiterAndOrphan := by
  refine ⟨fun p => ⟨fun w hwrite => ?_, fun hwrite => ⟨fun c r hr hnearest => ?_, fun hreads => ?_⟩,
    fun c r w => ⟨fun hbusy => ?_, fun hidle hwrite hreads => ?_⟩⟩, fun s hbusy horphan => ?_⟩
  · exact MemPort.serve_of_write (p := { p with inFlight := none, orphan := false }) hwrite
  · exact MemPort.serve_of_read (p := { p with inFlight := none, orphan := false }) hwrite hr hnearest
  · exact MemPort.serve_of_none (p := { p with inFlight := none, orphan := false }) hwrite hreads
  · exact ⟨MemPort.requestRead_of_busy hbusy c r, MemPort.requestWrite_of_busy hbusy w⟩
  · exact ⟨MemPort.requestRead_of_idle hidle hwrite hreads c r, MemPort.requestWrite_of_idle hidle w hwrite⟩
  · show execOrphanCompletion s = _
    rw [execOrphanCompletion, hbusy, horphan]
    rfl

/-! ## The words of an access (R151) -/

theorem laneEnables_getLsbD (a n word : Nat) {lane : Nat} (hlane : lane < 4) :
    (laneEnables a n word).getLsbD lane = laneEnabled a n word lane := by
  have hflags : ∀ b0 b1 b2 b3 : Bool,
      let x : BitVec 4 := BitVec.ofNat 4 (flagCode b0 + 2 * flagCode b1 + 4 * flagCode b2 + 8 * flagCode b3)
      x.getLsbD 0 = b0 ∧ x.getLsbD 1 = b1 ∧ x.getLsbD 2 = b2 ∧ x.getLsbD 3 = b3 := by decide
  obtain ⟨h0, h1, h2, h3⟩ := hflags (laneEnabled a n word 0) (laneEnabled a n word 1) (laneEnabled a n word 2)
    (laneEnabled a n word 3)
  rcases lt_four_cases hlane with rfl | rfl | rfl | rfl
  · exact h0
  · exact h1
  · exact h2
  · exact h3

theorem laneEnabled_iff (a n word lane : Nat) : laneEnabled a n word lane = true ↔ a ≤ word + lane ∧ word + lane < a + n := by
  simp [laneEnabled]

theorem laneData_lt (a : Nat) (bytes : List Byte) (word lane : Nat) : laneData a bytes word lane < 256 := by
  unfold laneData
  split
  · exact BitVec.isLt _
  · decide

theorem laneData_of_enabled {a : Nat} {bytes : List Byte} {word lane : Nat}
    (h : laneEnabled a bytes.length word lane = true) :
    some (BitVec.ofNat 8 (laneData a bytes word lane)) = bytes[word + lane - a]? := by
  obtain ⟨hlow, hhigh⟩ := (laneEnabled_iff _ _ _ _).1 h
  have hlt : word + lane - a < bytes.length := by omega
  rw [laneData, if_pos h, BitVec.ofNat_toNat, BitVec.setWidth_eq, List.getD_eq_getElem?_getD,
    List.getElem?_eq_getElem hlt, Option.getD_some]

/-- R151: a word made of four bytes carries each of them in its lane. -/
theorem byteOf_lanes (d : Nat → Nat) (hd : ∀ l, d l < 256) {lane : Nat} (hlane : lane < 4) :
    byteOf (BitVec.ofNat 32 (d 0 + 256 * d 1 + 65536 * d 2 + 16777216 * d 3)) lane = BitVec.ofNat 8 (d lane) := by
  have h0 := hd 0
  have h1 := hd 1
  have h2 := hd 2
  have h3 := hd 3
  apply BitVec.eq_of_toNat_eq
  simp only [byteOf, BitVec.toNat_ofNat, Nat.shiftRight_eq_div_pow]
  rcases lt_four_cases hlane with rfl | rfl | rfl | rfl <;> omega

theorem transfers_getElem? {a n i : Nat} (bytes : List Byte) (hi : i < accessSpan a n) :
    (transfers a n bytes)[i]? = some
      { addr := a / 4 * 4 + 4 * i
        enables := laneEnables a n (a / 4 * 4 + 4 * i)
        data := BitVec.ofNat 32
          (laneData a bytes (a / 4 * 4 + 4 * i) 0 + 256 * laneData a bytes (a / 4 * 4 + 4 * i) 1 +
            65536 * laneData a bytes (a / 4 * 4 + 4 * i) 2 + 16777216 * laneData a bytes (a / 4 * 4 + 4 * i) 3) } := by
  rw [transfers, List.getElem?_map, List.getElem?_range hi]
  rfl

theorem transfers_length (a n : Nat) (bytes : List Byte) : (transfers a n bytes).length = accessSpan a n := by
  rw [transfers, List.length_map, List.length_range]

theorem accessSpan_le (a : Nat) {n : Nat} (h : n ≤ 64) : accessSpan a n ≤ 17 := by
  unfold accessSpan
  omega

theorem accessBursts_of_le {x : Access} (h : (accessTransfers x).length ≤ 16) : accessBursts x = [accessTransfers x] :=
  if_pos h

theorem accessBursts_of_gt {x : Access} (h : 16 < (accessTransfers x).length) :
    accessBursts x = [(accessTransfers x).take 16, (accessTransfers x).drop 16] :=
  if_neg (Nat.not_le.2 h)

/-- Settles O41. -/
theorem wordsOfAnAccess : Obligations.WordsOfAnAccess := by
  refine ⟨fun a n bytes i hi => ⟨_, transfers_getElem? bytes hi, rfl, fun lane hlane => ⟨?_, ?_⟩⟩, transfers_length,
    fun a n => accessSpan_le a, fun x => ⟨?_, accessBursts_of_le, fun hlength => ?_⟩⟩
  · dsimp only
    rw [laneEnables_getLsbD _ _ _ hlane, laneEnabled_iff]
  · rintro rfl hlow hhigh
    dsimp only
    rw [byteOf_lanes (laneData a bytes _) (laneData_lt a bytes _) hlane]
    exact laneData_of_enabled ((laneEnabled_iff _ _ _ _).2 ⟨hlow, hhigh⟩)
  · rcases Nat.lt_or_ge 16 (accessTransfers x).length with hlong | hshort
    · rw [accessBursts_of_gt hlong]
      simp
    · rw [accessBursts_of_le hshort]
      simp
  · have hone : ((accessTransfers x).drop 16).length = 1 := by rw [List.length_drop, hlength]
    obtain ⟨seventeenth, hdrop⟩ := List.length_eq_one_iff.1 hone
    refine ⟨(accessTransfers x).take 16, seventeenth, ?_, ?_⟩
    · rw [accessBursts_of_gt (by omega), hdrop]
    · rw [List.length_take, hlength]
      rfl

/-! ## Segment ends (R68 to R76) -/

/-- Settles O42. -/
theorem segmentEndAndGrant : Obligations.SegmentEndAndGrant := by
  refine ⟨fun s c seg status => ?_, fun s c e seg hseg => ⟨fun hother => ?_, fun hdone htaken => ⟨?_, ?_, ?_⟩⟩⟩
  · intro report
    refine ⟨(endingOf c seg status).stopTaken, by simp [endingOf], ?_⟩
    intro ended
    have hended : s.endSegment c seg status = ended.offer (.channel c) := rfl
    have hending : (ended.chan c).ending = some (endingOf c seg status) :=
      congrArg Channel.ending (State.chan_setChan_same s c _)
    refine ⟨fun hfull => ?_, fun hroom => ?_⟩
    · exact hended.trans (State.offer_of_full ended _ hfull)
    · exact hended.trans ((State.offer_of_room ended _ hroom).trans (State.grant_channel_ending ended hending))
  · rw [State.leaveEnding, hseg]
    exact if_neg fun h => hother.elim (· h.1) fun htaken => by rw [h.2] at htaken; cases htaken
  · intro r rest hstaged
    rw [State.leaveEnding, hseg, hstaged]
    dsimp only
    rw [if_pos ⟨hdone, htaken⟩]
    cases seg.record.repeats <;> rfl
  · intro hstaged hrepeats
    rw [State.leaveEnding, hseg, hstaged]
    dsimp only
    rw [if_pos ⟨hdone, htaken⟩, hrepeats]
  · intro hstaged hrepeats
    rw [State.leaveEnding, hseg, hstaged]
    dsimp only
    rw [if_pos ⟨hdone, htaken⟩, hrepeats]
    rfl

end Sys2Proof.Machine

namespace Sys2Proof.Machine

/-! ## PUSH (R63, R65, R165, Figure 10-10) -/

theorem pushedRecord_offset_of_clear {words : Vector Word 4} (dest : Destination) (h : getField words[3] 23 1 ≠ 1) :
    (pushedRecord words dest).offset = none := if_neg fun hbit => h ((getField_bit _ _).2 hbit)

theorem pushedRecord_offset_of_set {words : Vector Word 4} (dest : Destination) (h : getField words[3] 23 1 = 1) :
    (pushedRecord words dest).offset = some (getField words[3] 0 20) := if_pos ((getField_bit _ _).1 h)

/-- R63: what the words of a PUSH must satisfy, its channel and destination apart. -/
theorem pushedRecord_valid_iff (words : Vector Word 4) (dest : Destination) :
    (pushedRecord words dest).valid = true ↔
      1 ≤ words[1].toNat ∧ words[1].toNat ≤ 1048576 ∧ 1 ≤ getField words[2] 12 4 ∧ getField words[2] 12 4 ≤ 8 ∧
        words[0].toNat + words[1].toNat ≤ 2 ^ 32 ∧
        (getField words[3] 23 1 = 1 → getField words[3] 0 20 + words[1].toNat ≤ 1048576) := by
  rw [SegmentRecord.valid_iff]
  refine and_congr_right' <| and_congr_right' <| and_congr_right' <| and_congr_right' <| and_congr_right' ?_
  by_cases hbit : getField words[3] 23 1 = 1
  · rw [pushedRecord_offset_of_set dest hbit]
    simp [hbit, pushedRecord]
  · rw [pushedRecord_offset_of_clear dest hbit]
    simp [hbit]

/-- R63: the destination codes of five bits that name no destination. -/
theorem exists_destOfCode_iff (v : Nat) (h : v < 32) : (∃ d, destOfCode v = some d) ↔ ¬ (16 ≤ v ∧ v ≤ 30) := by
  simp only [destOfCode_eq_some_iff]
  constructor
  · rintro ⟨d, ⟨id, rfl, -⟩ | ⟨rfl, -⟩⟩
    · have := id.isLt
      omega
    · omega
  · intro hnot
    by_cases hlow : v < 16
    · exact ⟨_, .inl ⟨⟨v, hlow⟩, rfl, rfl⟩⟩
    · exact ⟨_, .inr ⟨by omega, rfl⟩⟩

theorem pushFields_eq_none (words : Vector Word 4) :
    pushFields words = none ↔
      ¬ (getField words[3] 24 8 < 4 ∧ ¬ (16 ≤ getField words[2] 0 5 ∧ getField words[2] 0 5 ≤ 30) ∧
        (pushedRecord words .all).valid = true) := by
  rw [← exists_destOfCode_iff _ (getField_lt _ 0 5), Option.eq_none_iff_forall_ne_some]
  constructor
  · rintro hnone ⟨hchannel, ⟨dest, hdest⟩, hvalid⟩
    refine hnone (⟨_, hchannel⟩, pushedRecord words dest) (pushFields_eq_some.2 ⟨rfl, dest, hdest, rfl, ?_⟩)
    exact (pushedRecord_valid_iff words dest).2 ((pushedRecord_valid_iff words .all).1 hvalid)
  · rintro hbad ⟨c, r⟩ hsome
    obtain ⟨hchannel, dest, hdest, rfl, hvalid⟩ := pushFields_eq_some.1 hsome
    refine hbad ⟨hchannel ▸ c.isLt, ⟨dest, hdest⟩, ?_⟩
    exact (pushedRecord_valid_iff words .all).2 ((pushedRecord_valid_iff words dest).1 hvalid)

theorem pushFields_words {words : Vector Word 4} {c : ChannelNo} {r : SegmentRecord} (h : pushFields words = some (c, r)) :
    c.val = getField words[3] 24 8 ∧ r.source = words[0] ∧ r.length = words[1].toNat ∧
      destCode r.dest = getField words[2] 0 5 ∧ r.window.val = getField words[2] 8 4 ∧
      r.tenureSize = getField words[2] 12 4 ∧ r.tag.toNat = getField words[2] 16 16 ∧
      (getField words[3] 23 1 = 0 → r.offset = none) ∧
      (getField words[3] 23 1 = 1 → r.offset = some (getField words[3] 0 20)) ∧
      (r.pacing = .paced ↔ getField words[3] 20 1 = 1) ∧ (r.repeats = true ↔ getField words[3] 21 1 = 1) ∧
      (r.notify = true ↔ getField words[3] 22 1 = 1) := by
  obtain ⟨hchannel, dest, hdest, rfl, -⟩ := pushFields_eq_some.1 h
  refine ⟨hchannel, rfl, rfl, ?_, ?_, rfl, ?_, fun hclear => ?_, pushedRecord_offset_of_set dest, ?_, ?_, ?_⟩
  · rcases (destOfCode_eq_some_iff _ _).1 hdest with ⟨id, hcode, rfl⟩ | ⟨hcode, rfl⟩
    · exact hcode.symm
    · exact hcode.symm
  · exact Nat.mod_eq_of_lt (getField_lt words[2] 8 4)
  · exact (BitVec.toNat_ofNat _ _).trans (Nat.mod_eq_of_lt (getField_lt words[2] 16 16))
  · exact pushedRecord_offset_of_clear dest (by omega)
  · rw [getField_bit]
    simp [pushedRecord]
  · exact (getField_bit words[3] 21).symm
  · exact (getField_bit words[3] 22).symm

namespace State

variable {s : State}

theorem push_of_bad (h : pushFields s.cmd.words = none) : s.push = (s, reply .badField) := by
  rw [State.push, h]

theorem push_of_idle {c : ChannelNo} {r : SegmentRecord} (h : pushFields s.cmd.words = some (c, r))
    (hidle : (s.chan c).state = .idle) : s.push = (s.startSegment c r (s.chan c).staged, reply .ok) := by
  rw [State.push, h]
  exact if_pos hidle

theorem push_of_room {c : ChannelNo} {r : SegmentRecord} (h : pushFields s.cmd.words = some (c, r))
    (hbusy : (s.chan c).state ≠ .idle) (hroom : (s.chan c).staged.length < 8) :
    s.push = (s.setChan c { s.chan c with staged := (s.chan c).staged ++ [r] }, reply .ok) := by
  rw [State.push, h]
  exact (if_neg hbusy).trans (if_pos hroom)

theorem push_of_full {c : ChannelNo} {r : SegmentRecord} (h : pushFields s.cmd.words = some (c, r))
    (hbusy : (s.chan c).state ≠ .idle) (hfull : 8 ≤ (s.chan c).staged.length) : s.push = (s, reply .queueFull) := by
  rw [State.push, h]
  exact (if_neg hbusy).trans (if_neg (Nat.not_lt.2 hfull))

end State

/-- Settles O43. -/
theorem push : Obligations.Push := by
  refine ⟨fun words => ⟨?_, fun c r => pushFields_words⟩, fun _ => rfl, rfl, fun s hup => ⟨fun hbad => ?_,
    fun c r hfields => ⟨pushFields_valid hfields, fun hidle => ?_, fun hbusy hroom => ?_, fun hbusy hfull => ?_⟩⟩⟩
  · rw [pushFields_eq_none]
    rw [pushedRecord_valid_iff]
    omega
  · exact s.takeCommand_answered 0x01 State.push s (reply .badField) hup (State.push_of_bad hbad) rfl
  · refine s.takeCommand_answered 0x01 State.push _ (reply .ok) hup ?_ (s.startSegment_cmd c r _)
    rw [State.push_of_idle (s := s.setCmd { s.cmd with code := 0x01 }) hfields hidle, State.startSegment_setCmd, State.setCmd_chan]
  · exact s.takeCommand_answered 0x01 State.push _ (reply .ok) hup (State.push_of_room (s := s.setCmd { s.cmd with code := 0x01 }) hfields hbusy hroom)
      rfl
  · exact s.takeCommand_answered 0x01 State.push s (reply .queueFull) hup
      (State.push_of_full (s := s.setCmd { s.cmd with code := 0x01 }) hfields hbusy hfull) rfl

/-! ## Commands of a channel and of a window (R126, R165, R166) -/

namespace State

variable {s : State}

theorem onChannel_of_bad {act : ChannelNo → State × Reply} (h : channelField s.cmd.words[0] = none) :
    s.onChannel act = (s, reply .badField) := by
  rw [State.onChannel, h]

theorem onChannel_of_some {act : ChannelNo → State × Reply} {c : ChannelNo} (h : channelField s.cmd.words[0] = some c) :
    s.onChannel act = act c := by
  rw [State.onChannel, h]

theorem onWindow_of_bad {act : WindowNo → State × Reply} (h : windowField s.cmd.words[0] = none) :
    s.onWindow act = (s, reply .badField) := by
  rw [State.onWindow, h]

theorem onWindow_of_some {act : WindowNo → State × Reply} {w : WindowNo} (h : windowField s.cmd.words[0] = some w) :
    s.onWindow act = act w := by
  rw [State.onWindow, h]

/-- R165, R166: a command whose channel number is out of range. -/
theorem channelCommand_of_bad (hup : s.membership.link ≠ .down) (hbad : channelField s.cmd.words[0] = none)
    (code : BitVec 8) (act : State → ChannelNo → State × Reply) :
    s.takeCommand code (fun s => s.onChannel (act s)) = .next (s.answered code .badField noWords) :=
  s.takeCommand_answered code _ s (reply .badField) hup (onChannel_of_bad (s := s.setCmd { s.cmd with code := code }) hbad) rfl

/-- R165, R166: a command of a channel whose effect does not look at the command port. -/
theorem channelCommand_answered (hup : s.membership.link ≠ .down) {c : ChannelNo}
    (hc : channelField s.cmd.words[0] = some c) {code : BitVec 8} {act : State → ChannelNo → State × Reply} {t : State}
    {r : Reply} (hact : ∀ x, act (s.setCmd x) c = (t.setCmd x, r)) (hcmd : t.cmd = s.cmd) :
    s.takeCommand code (fun s => s.onChannel (act s)) = .next (t.answered code r.code r.words) :=
  s.takeCommand_answered code _ t r hup ((onChannel_of_some (s := s.setCmd { s.cmd with code := code }) hc).trans (hact _)) hcmd

/-- R126, R165: a command whose window number is out of range. -/
theorem windowCommand_of_bad (hup : s.membership.link ≠ .down) (hbad : windowField s.cmd.words[0] = none)
    (code : BitVec 8) (act : State → WindowNo → State × Reply) :
    s.takeCommand code (fun s => s.onWindow (act s)) = .next (s.answered code .badField noWords) :=
  s.takeCommand_answered code _ s (reply .badField) hup (onWindow_of_bad (s := s.setCmd { s.cmd with code := code }) hbad) rfl

/-- R126, R165: a command of a window, the command port holding its code. -/
theorem windowCommand_answered (hup : s.membership.link ≠ .down) {w : WindowNo}
    (hw : windowField s.cmd.words[0] = some w) {code : BitVec 8} {act : State → WindowNo → State × Reply} {t : State}
    {r : Reply} (hact : act (s.setCmd { s.cmd with code := code }) w = (t.setCmd { s.cmd with code := code }, r))
    (hcmd : t.cmd = s.cmd) :
    s.takeCommand code (fun s => s.onWindow (act s)) = .next (t.answered code r.code r.words) :=
  s.takeCommand_answered code _ t r hup ((onWindow_of_some (s := s.setCmd { s.cmd with code := code }) hw).trans hact) hcmd

/-! ## STOP, RESUME and FLUSH at their channel (R78, R79, R108 to R110) -/

variable {c : ChannelNo}

theorem stopChannel_of_waiting {seg : Segment} (hseg : (s.chan c).current = some seg)
    (hstate : (s.chan c).state = .assembling ∨ (s.chan c).state = .ready) :
    s.stopChannel c = (s.endSegment c seg .stopped, reply .ok) := by
  rcases hstate with hstate | hstate
  · rw [State.stopChannel, hseg, hstate]
  · rw [State.stopChannel, hseg, hstate]

theorem stopChannel_of_onBus {seg : Segment} (hseg : (s.chan c).current = some seg)
    (hstate : (s.chan c).state = .onBus) :
    s.stopChannel c = (s.setChan c { s.chan c with current := some { seg with stopPending := true } }, reply .ok) := by
  rw [State.stopChannel, hseg, hstate]

theorem stopChannel_of_other (h : (s.chan c).state = .idle ∨ (s.chan c).state = .ending ∨ (s.chan c).state = .halted) :
    s.stopChannel c = (s, reply .wrongState) := by
  rcases h with h | h | h
  · rw [State.stopChannel, h]
  · rw [State.stopChannel, h]
  · rw [State.stopChannel, h]

theorem resumeChannel_of_staged {r : SegmentRecord} {rest : List SegmentRecord} (hhalted : (s.chan c).state = .halted)
    (hstaged : (s.chan c).staged = r :: rest) : s.resumeChannel c = (s.startSegment c r rest, reply .ok) := by
  rw [State.resumeChannel, if_pos hhalted, hstaged]

theorem resumeChannel_of_empty (hhalted : (s.chan c).state = .halted) (hstaged : (s.chan c).staged = []) :
    s.resumeChannel c = (s.setChan c { s.chan c with state := .idle }, reply .ok) := by
  rw [State.resumeChannel, if_pos hhalted, hstaged]

theorem resumeChannel_of_other (h : (s.chan c).state ≠ .halted) : s.resumeChannel c = (s, reply .wrongState) := if_neg h

theorem flushChannel_of_empty (h : (s.chan c).staged = []) : s.flushChannel c = (s, reply .ok) :=
  if_pos (List.isEmpty_iff.2 h)

theorem flushChannel_of_staged (h : (s.chan c).staged ≠ []) :
    s.flushChannel c =
      ((s.setChan c
        { s.chan c with staged := [], flushCount := min 255 ((s.chan c).flushCount + (s.chan c).staged.length) }).offer
          (.channel c), reply .ok) :=
  if_neg fun hempty => h (List.isEmpty_iff.1 hempty)

end State

theorem channelField_val {word : Word} {c : ChannelNo} (h : channelField word = some c) : c.val = word.toNat % 256 := by
  unfold channelField at h
  split at h
  · cases h
    rfl
  · cases h

theorem windowField_val {word : Word} {w : WindowNo} (h : windowField word = some w) : w.val = word.toNat % 256 := by
  unfold windowField at h
  split at h
  · cases h
    rfl
  · cases h

/-- Settles O44. -/
theorem stopResumeFlush : Obligations.StopResumeFlush := by
  refine ⟨channelField_none, fun s hup => ⟨fun hbad => ?_, fun c hc => ⟨channelField_val hc,
    fun seg hseg => ⟨fun hstate => ?_, fun hstate => ?_⟩, fun hstate => ?_,
    fun hhalted => ⟨fun r rest hstaged => ?_, fun hstaged => ?_⟩, fun hstate => ?_, fun hstaged => ?_,
    fun hstaged => ?_⟩⟩⟩
  · exact ⟨State.channelCommand_of_bad hup hbad 0x02 State.stopChannel,
      State.channelCommand_of_bad hup hbad 0x03 State.resumeChannel,
      State.channelCommand_of_bad hup hbad 0x04 State.flushChannel⟩
  · refine State.channelCommand_answered hup hc (act := State.stopChannel) (r := reply .ok) (fun x => ?_)
      (s.endSegment_cmd c seg .stopped)
    rw [State.stopChannel_of_waiting (s := s.setCmd x) hseg hstate, State.endSegment_setCmd]
  · exact State.channelCommand_answered hup hc (act := State.stopChannel) (r := reply .ok)
      (t := s.setChan c { s.chan c with current := some { seg with stopPending := true } })
      (fun x => State.stopChannel_of_onBus (s := s.setCmd x) hseg hstate) rfl
  · exact State.channelCommand_answered hup hc (act := State.stopChannel) (r := reply .wrongState)
      (fun x => State.stopChannel_of_other (s := s.setCmd x) hstate) rfl
  · refine State.channelCommand_answered hup hc (act := State.resumeChannel) (r := reply .ok) (fun x => ?_)
      (s.startSegment_cmd c r rest)
    rw [State.resumeChannel_of_staged (s := s.setCmd x) hhalted hstaged, State.startSegment_setCmd]
  · exact State.channelCommand_answered hup hc (act := State.resumeChannel) (r := reply .ok)
      (t := s.setChan c { s.chan c with state := .idle })
      (fun x => State.resumeChannel_of_empty (s := s.setCmd x) hhalted hstaged) rfl
  · exact State.channelCommand_answered hup hc (act := State.resumeChannel) (r := reply .wrongState)
      (fun x => State.resumeChannel_of_other (s := s.setCmd x) hstate) rfl
  · exact State.channelCommand_answered hup hc (act := State.flushChannel) (r := reply .ok)
      (fun x => State.flushChannel_of_empty (s := s.setCmd x) hstaged) rfl
  · refine State.channelCommand_answered hup hc (act := State.flushChannel) (r := reply .ok) (fun x => ?_)
      (State.offer_cmd _ _)
    rw [State.flushChannel_of_staged (s := s.setCmd x) hstaged, State.setCmd_chan, State.setChan_setCmd, State.offer_setCmd]
    rfl

end Sys2Proof.Machine

namespace Sys2Proof.Machine

/-! ## Words packed of fields (Figures 10-10 to 10-14) -/

/-- A field of a packed word: the bit it begins at, its width, and the value put there. -/
structure PackedField where
  lo : Nat
  width : Nat
  value : Nat

namespace PackedField

/-- The word that holds this field alone. -/
def word (f : PackedField) : Word := putField f.lo f.value

/-- The field's value fits its width, and the field its word. -/
def Fits (f : PackedField) : Prop := f.value < 2 ^ f.width ∧ f.lo + f.width ≤ 32

/-- One field ends before the other begins. -/
def Before (f g : PackedField) : Prop := f.lo + f.width ≤ g.lo

/-- The fields packed onto a word. -/
def packOnto (w : Word) : List PackedField → Word
  | [] => w
  | f :: fs => packOnto (w ||| f.word) fs

/-- The fields of a word, in the form in which the model writes packed words. -/
def pack : List PackedField → Word
  | [] => 0
  | f :: fs => packOnto f.word fs

theorem getField_word_self {f : PackedField} (h : f.Fits) : getField f.word f.lo f.width = f.value :=
  getField_putField_self h.1 h.2

theorem getField_word_of_disjoint {f : PackedField} {lo n : Nat} (h : f.Fits) (hapart : f.lo + f.width ≤ lo ∨ lo + n ≤ f.lo) :
    getField f.word lo n = 0 := by
  rcases hapart with habove | hbelow
  · exact getField_putField_above h.1 habove
  · exact getField_putField_below hbelow

/-- Fields that read 0 at a place leave what the word reads there. -/
theorem getField_packOnto {fs : List PackedField} {lo n : Nat} (h : ∀ f ∈ fs, getField f.word lo n = 0) (w : Word) :
    getField (packOnto w fs) lo n = getField w lo n := by
  induction fs generalizing w with
  | nil => rfl
  | cons f fs ih =>
    obtain ⟨hf, hfs⟩ := List.forall_mem_cons.1 h
    rw [packOnto, ih hfs, getField_or, hf, Nat.or_zero]

theorem getField_pack_of_disjoint {fs : List PackedField} (hfits : ∀ f ∈ fs, f.Fits) {lo n : Nat}
    (hapart : ∀ f ∈ fs, f.lo + f.width ≤ lo ∨ lo + n ≤ f.lo) : getField (pack fs) lo n = 0 := by
  cases fs with
  | nil => exact getField_zero lo n
  | cons f fs =>
    have hzero (g) (hg : g ∈ f :: fs) : getField g.word lo n = 0 := getField_word_of_disjoint (hfits g hg) (hapart g hg)
    rw [pack, getField_packOnto fun g hg => hzero g (List.mem_cons_of_mem _ hg)]
    exact hzero f List.mem_cons_self

theorem getField_packOnto_self {fs : List PackedField} (hfits : ∀ f ∈ fs, f.Fits) (hsorted : fs.Pairwise Before) {w : Word}
    {f : PackedField} (hf : f ∈ fs) (hclear : getField w f.lo f.width = 0) :
    getField (packOnto w fs) f.lo f.width = f.value := by
  induction fs generalizing w with
  | nil => cases hf
  | cons g fs ih =>
    obtain ⟨hg, hrest⟩ := List.forall_mem_cons.1 hfits
    obtain ⟨hfirst, hsorted⟩ := List.pairwise_cons.1 hsorted
    rw [packOnto]
    rcases List.mem_cons.1 hf with rfl | hf
    · rw [getField_packOnto fun k hk => getField_word_of_disjoint (hrest k hk) (.inr (hfirst k hk)), getField_or, hclear,
        getField_word_self hg, Nat.zero_or]
    · refine ih hrest hsorted hf ?_
      rw [getField_or, hclear, getField_word_of_disjoint hg (.inl (hfirst f hf)), Nat.zero_or]

/-- Every one of the fields reads its value in the word, as a conjunction without a closing `True`. -/
def ShownIn (w : Word) : List PackedField → Prop
  | [] => True
  | [f] => getField w f.lo f.width = f.value
  | f :: g :: fs => getField w f.lo f.width = f.value ∧ ShownIn w (g :: fs)

theorem shownIn_of_forall {w : Word} {fs : List PackedField} (h : ∀ f ∈ fs, getField w f.lo f.width = f.value) :
    ShownIn w fs := by
  induction fs with
  | nil => trivial
  | cons f fs ih =>
    obtain ⟨hf, hrest⟩ := List.forall_mem_cons.1 h
    cases fs with
    | nil => exact hf
    | cons g fs => exact ⟨hf, ih hrest⟩

/-- Every field of the packed word reads the value put there. -/
def Shown (fs : List PackedField) : Prop := ShownIn (pack fs) fs

theorem getField_pack {fs : List PackedField} (hfits : ∀ f ∈ fs, f.Fits) (hsorted : fs.Pairwise Before) :
    Shown fs := by
  refine shownIn_of_forall ?_
  cases fs with
  | nil => exact fun f hf => by cases hf
  | cons g fs =>
    obtain ⟨hg, hrest⟩ := List.forall_mem_cons.1 hfits
    obtain ⟨hfirst, hsorted⟩ := List.pairwise_cons.1 hsorted
    refine List.forall_mem_cons.2 ⟨?_, fun f hf => ?_⟩
    · rw [pack, getField_packOnto fun k hk => getField_word_of_disjoint (hrest k hk) (.inr (hfirst k hk)),
        getField_word_self hg]
    · exact getField_packOnto_self hrest hsorted hf (getField_word_of_disjoint hg (.inl (hfirst f hf)))

end PackedField

/-! ## The sizes of the codes shown -/

theorem channelStateCode_lt (x : ChannelState) : channelStateCode x < 8 := by cases x <;> decide

theorem statusCode_lt (x : SegmentStatus) : statusCode x < 8 := by cases x <;> decide

theorem windowStateCode_lt (x : WindowState) : windowStateCode x < 8 := by cases x <;> decide

theorem kindCode_lt (x : WindowKind) : kindCode x < 4 := by cases x <;> decide

theorem notifyCode_lt (x : NotifyMode) : notifyCode x < 4 := by cases x <;> decide

theorem destCode_lt (x : Destination) : destCode x < 32 := by
  cases x with
  | station id => exact Nat.lt_of_lt_of_le id.isLt (by decide)
  | all => decide

theorem eventCode_lt (e : WindowEvent) : eventCode e < 4 := by
  cases e with
  | progress => decide
  | full => decide
  | closed => decide
  | fault address => exact Nat.lt_succ_self 3

theorem noteEventCode_lt (x : Option WindowEvent) : noteEventCode x < 4 := by
  cases x with
  | none => decide
  | some e => exact eventCode_lt e

theorem optionalId_lt (x : Option StationId) : optionalId x < 16 := by
  cases x with
  | none => decide
  | some id => exact id.isLt

theorem endingStatusCode_of_ending {ch : Channel} {e : EndingRecord} (hstate : ch.state = .ending)
    (he : ch.ending = some e) : endingStatusCode ch = statusCode e.report.status := by
  rw [endingStatusCode, hstate, he]

theorem endingStatusCode_of_other {ch : Channel} (hstate : ch.state ≠ .ending) : endingStatusCode ch = 7 := by
  unfold endingStatusCode
  split
  next h _ => exact absurd h hstate
  next => rfl

theorem endingStatusCode_lt (ch : Channel) : endingStatusCode ch < 8 := by
  unfold endingStatusCode
  split
  · exact statusCode_lt _
  · decide

/-! ## QUERY_CHANNEL (R81, Figure 10-12) -/

/-- Figure 10-12, word 0 without a current segment. -/
def idleFields (ch : Channel) : List PackedField :=
  [⟨0, 3, channelStateCode ch.state⟩, ⟨3, 4, ch.staged.length⟩, ⟨7, 8, ch.flushCount⟩]

/-- Figure 10-12, word 0 with a current segment. -/
def currentFields (ch : Channel) (seg : Segment) : List PackedField :=
  [⟨0, 3, channelStateCode ch.state⟩, ⟨3, 4, ch.staged.length⟩, ⟨7, 8, ch.flushCount⟩, ⟨15, 1, 1⟩,
    ⟨16, 16, seg.record.tag.toNat⟩]

/-- Figure 10-12, word 1. -/
def committedFields (seg : Segment) : List PackedField :=
  [⟨0, 21, seg.committed⟩, ⟨24, 4, seg.record.window.val⟩, ⟨28, 1, flagCode seg.stopPending⟩,
    ⟨29, 1, flagCode seg.record.repeats⟩, ⟨30, 1, flagCode seg.record.notify⟩]

/-- Figure 10-12, word 2. -/
def unreadFields (seg : Segment) : List PackedField := [⟨0, 21, seg.unread⟩, ⟨24, 5, destCode seg.record.dest⟩]

/-- Figure 10-12, word 3. -/
def heldFields (ch : Channel) (seg : Segment) : List PackedField :=
  [⟨0, 10, seg.held⟩, ⟨16, 5, seg.retry⟩, ⟨24, 3, endingStatusCode ch⟩]

open PackedField

theorem channelWords_of_none {ch : Channel} (h : ch.current = none) :
    channelWords ch = #v[pack (idleFields ch), 0, 0, pack [⟨24, 3, endingStatusCode ch⟩]] := by
  rw [channelWords, h]
  rfl

theorem channelWords_of_some {ch : Channel} {seg : Segment} (h : ch.current = some seg) :
    channelWords ch =
      #v[pack (currentFields ch seg), pack (committedFields seg), pack (unreadFields seg), pack (heldFields ch seg)] := by
  rw [channelWords, h]
  rfl

theorem idleFields_fit {ch : Channel} (hstaged : ch.staged.length ≤ 8) (hflush : ch.flushCount ≤ 255) :
    ∀ f ∈ idleFields ch, f.Fits := by
  have hstate := channelStateCode_lt ch.state
  simp only [idleFields, List.forall_mem_cons, Fits, List.not_mem_nil, false_imp_iff, implies_true, and_true]
  omega

theorem getField_idleFields {ch : Channel} (hstaged : ch.staged.length ≤ 8) (hflush : ch.flushCount ≤ 255) :
    Shown (idleFields ch) :=
  getField_pack (idleFields_fit hstaged hflush) (by simp [idleFields, Before])

theorem getField_currentFields {ch : Channel} (hstaged : ch.staged.length ≤ 8) (hflush : ch.flushCount ≤ 255)
    (seg : Segment) : Shown (currentFields ch seg) := by
  have hstate := channelStateCode_lt ch.state
  have htag := seg.record.tag.isLt
  refine getField_pack ?_ (by simp [currentFields, Before])
  simp only [currentFields, List.forall_mem_cons, Fits, List.not_mem_nil, false_imp_iff, implies_true, and_true]
  omega

theorem getField_committedFields {seg : Segment} (h : seg.committed ≤ 1048576) :
    Shown (committedFields seg) := by
  have hwindow := seg.record.window.isLt
  have hstop := flagCode_lt_two seg.stopPending
  have hrepeats := flagCode_lt_two seg.record.repeats
  have hnotify := flagCode_lt_two seg.record.notify
  refine getField_pack ?_ (by simp [committedFields, Before])
  simp only [committedFields, List.forall_mem_cons, Fits, List.not_mem_nil, false_imp_iff, implies_true, and_true]
  omega

theorem getField_unreadFields {seg : Segment} (h : seg.unread ≤ 1048576) :
    Shown (unreadFields seg) := by
  have hdest := destCode_lt seg.record.dest
  refine getField_pack ?_ (by simp [unreadFields, Before])
  simp only [unreadFields, List.forall_mem_cons, Fits, List.not_mem_nil, false_imp_iff, implies_true, and_true]
  omega

theorem getField_heldFields {seg : Segment} (ch : Channel) (hheld : seg.held ≤ 512) (hretry : seg.retry ≤ 16) :
    Shown (heldFields ch seg) := by
  have hstatus := endingStatusCode_lt ch
  refine getField_pack ?_ (by simp [heldFields, Before])
  simp only [heldFields, List.forall_mem_cons, Fits, List.not_mem_nil, false_imp_iff, implies_true, and_true]
  omega

/-- Figure 10-12: bits 26:24 of word 3 show the ending status, with and without a current segment. -/
theorem getField_channelWords_status {ch : Channel}
    (hseg : ∀ seg, ch.current = some seg → seg.held ≤ 512 ∧ seg.retry ≤ 16) :
    getField (channelWords ch)[3] 24 3 = endingStatusCode ch := by
  cases hcurrent : ch.current with
  | none =>
    rw [channelWords_of_none hcurrent]
    exact getField_putField_self (lo := 24) (n := 3) (endingStatusCode_lt ch) (by decide)
  | some seg =>
    obtain ⟨hheld, hretry⟩ := hseg seg hcurrent
    rw [channelWords_of_some hcurrent]
    exact (getField_heldFields ch hheld hretry).2.2

/-- Figure 10-12: the fields of word 0 that are shown with and without a current segment. -/
theorem getField_channelWords_common {ch : Channel} (hstaged : ch.staged.length ≤ 8) (hflush : ch.flushCount ≤ 255) :
    getField (channelWords ch)[0] 0 3 = channelStateCode ch.state ∧
      getField (channelWords ch)[0] 3 4 = ch.staged.length ∧ getField (channelWords ch)[0] 7 8 = ch.flushCount ∧
      getField (channelWords ch)[0] 15 1 = flagCode ch.current.isSome := by
  cases hcurrent : ch.current with
  | none =>
    obtain ⟨hstate, hcount, hflushed⟩ := getField_idleFields hstaged hflush
    rw [channelWords_of_none hcurrent]
    refine ⟨hstate, hcount, hflushed, ?_⟩
    exact getField_pack_of_disjoint (idleFields_fit hstaged hflush) (by simp [idleFields])
  | some seg =>
    obtain ⟨hstate, hcount, hflushed, hsome, -⟩ := getField_currentFields hstaged hflush seg
    rw [channelWords_of_some hcurrent]
    exact ⟨hstate, hcount, hflushed, hsome⟩

/-- Figure 10-12: without a current segment its fields show 0. -/
theorem getField_channelWords_none {ch : Channel} (hstaged : ch.staged.length ≤ 8) (hflush : ch.flushCount ≤ 255)
    (hcurrent : ch.current = none) :
    getField (channelWords ch)[0] 16 16 = 0 ∧ (channelWords ch)[1] = 0 ∧ (channelWords ch)[2] = 0 ∧
      getField (channelWords ch)[3] 0 24 = 0 := by
  rw [channelWords_of_none hcurrent]
  exact ⟨getField_pack_of_disjoint (idleFields_fit hstaged hflush) (by simp [idleFields]), rfl, rfl,
    getField_putField_below (lo := 0) (n := 24) (at' := 24) (Nat.le_refl _)⟩

/-- Figure 10-12: the fields of a current segment. -/
theorem getField_channelWords_some {ch : Channel} {seg : Segment} (hstaged : ch.staged.length ≤ 8)
    (hflush : ch.flushCount ≤ 255) (hcurrent : ch.current = some seg)
    (hlimits : seg.committed ≤ 1048576 ∧ seg.unread ≤ 1048576 ∧ seg.held ≤ 512 ∧ seg.retry ≤ 16) :
    getField (channelWords ch)[0] 16 16 = seg.record.tag.toNat ∧
      getField (channelWords ch)[1] 0 21 = seg.committed ∧ getField (channelWords ch)[1] 24 4 = seg.record.window.val ∧
      getField (channelWords ch)[1] 28 1 = flagCode seg.stopPending ∧
      getField (channelWords ch)[1] 29 1 = flagCode seg.record.repeats ∧
      getField (channelWords ch)[1] 30 1 = flagCode seg.record.notify ∧
      getField (channelWords ch)[2] 0 21 = seg.unread ∧ getField (channelWords ch)[2] 24 5 = destCode seg.record.dest ∧
      getField (channelWords ch)[3] 0 10 = seg.held ∧ getField (channelWords ch)[3] 16 5 = seg.retry := by
  obtain ⟨hcommitted, hunread, hheld, hretry⟩ := hlimits
  obtain ⟨-, -, -, -, htag⟩ := getField_currentFields hstaged hflush seg
  obtain ⟨hbytes, hwindow, hstop, hrepeats, hnotify⟩ := getField_committedFields hcommitted
  obtain ⟨hleft, hdest⟩ := getField_unreadFields hunread
  obtain ⟨hheldBytes, hretries, -⟩ := getField_heldFields ch hheld hretry
  rw [channelWords_of_some hcurrent]
  exact ⟨htag, hbytes, hwindow, hstop, hrepeats, hnotify, hleft, hdest, hheldBytes, hretries⟩

/-! ## QUERY_WINDOW (R133, Figure 10-13) -/

/-- Figure 10-13, part 0, word 0. -/
def setupFields (x : Window) : List PackedField :=
  [⟨0, 3, windowStateCode x.state⟩, ⟨4, 2, kindCode x.kind⟩, ⟨8, 2, notifyCode x.notify⟩, ⟨16, 16, x.filter.toNat⟩]

/-- Figure 10-13, part 2, word 0. -/
def senderFields (x : Window) : List PackedField :=
  [⟨0, 16, x.committedFrames⟩, ⟨16, 1, flagCode x.lastSender.isSome⟩, ⟨20, 4, optionalId x.lastSender⟩]

/-- Figure 10-13, part 2, word 2. -/
def noteFields (x : Window) (queued : Nat) : List PackedField :=
  [⟨0, 1, flagCode x.faultAddr.isSome⟩, ⟨8, 5, queued⟩, ⟨16, 2, noteEventCode x.note⟩, ⟨19, 1, flagCode x.note.isSome⟩]

theorem getField_setupFields (x : Window) :
    Shown (setupFields x) := by
  have hstate := windowStateCode_lt x.state
  have hkind := kindCode_lt x.kind
  have hnotify := notifyCode_lt x.notify
  have hfilter := x.filter.isLt
  refine getField_pack ?_ (by simp [setupFields, Before])
  simp only [setupFields, List.forall_mem_cons, Fits, List.not_mem_nil, false_imp_iff, implies_true, and_true]
  omega

theorem getField_senderFields {x : Window} (h : x.committedFrames ≤ 65535) :
    Shown (senderFields x) := by
  have hsome := flagCode_lt_two x.lastSender.isSome
  have hid := optionalId_lt x.lastSender
  refine getField_pack ?_ (by simp [senderFields, Before])
  simp only [senderFields, List.forall_mem_cons, Fits, List.not_mem_nil, false_imp_iff, implies_true, and_true]
  omega

theorem getField_noteFields (x : Window) {queued : Nat} (h : queued ≤ 16) :
    Shown (noteFields x queued) := by
  have hfault := flagCode_lt_two x.faultAddr.isSome
  have hevent := noteEventCode_lt x.note
  have hnote := flagCode_lt_two x.note.isSome
  refine getField_pack ?_ (by simp [noteFields, Before])
  simp only [noteFields, List.forall_mem_cons, Fits, List.not_mem_nil, false_imp_iff, implies_true, and_true]
  omega

namespace State

variable {s : State} {w : WindowNo}

/-- Figure 10-13: part 0 of a window record. -/
theorem windowWords_setup :
    s.windowWords w 0 = some #v[pack (setupFields (s.win w)), (s.win w).base, BitVec.ofNat 32 (s.win w).size, 0] := rfl

/-- Figure 10-13: part 1 of a window record. -/
theorem windowWords_offsets :
    s.windowWords w 1 =
      some #v[(s.win w).accepted, (s.win w).commitMark, (s.win w).visible, (s.win w).consumed] := rfl

/-- Figure 10-13: part 2 of a window record. -/
theorem windowWords_notes :
    s.windowWords w 2 =
      some #v[pack (senderFields (s.win w)), (s.win w).faultAddr.getD 0, pack (noteFields (s.win w) (s.queuedOf w)), 0] :=
  rfl

theorem windowWords_of_gt {part : Nat} (h : 2 < part) : s.windowWords w part = none := by
  obtain ⟨k, rfl⟩ := Nat.exists_eq_add_of_lt h
  rw [Nat.add_comm 2 k, Nat.add_assoc]
  rfl

theorem queryWindow_of_bad (h : 2 < s.cmd.words[1].toNat % 256) : s.queryWindow w = (s, reply .badField) := by
  rw [State.queryWindow, windowWords_of_gt (part := getField s.cmd.words[1] 0 8) h]

theorem queryWindow_of_part {part : Nat} {words : Vector Word 4} (hpart : s.cmd.words[1].toNat % 256 = part)
    (hwords : s.windowWords w part = some words) : s.queryWindow w = (s, { code := .ok, words := words }) := by
  have hfield : getField s.cmd.words[1] 0 8 = part := hpart
  rw [State.queryWindow, hfield, hwords]

/-- R133: an OK result of QUERY_WINDOW shows the part named. -/
theorem queryWindow_answered (hup : s.membership.link ≠ .down) (hw : windowField s.cmd.words[0] = some w) {part : Nat}
    {words : Vector Word 4} (hpart : s.cmd.words[1].toNat % 256 = part) (hwords : s.windowWords w part = some words) :
    exec .queryWindow s = .next (s.answered 0x0C .ok words) :=
  windowCommand_answered hup hw (act := State.queryWindow) (t := s) (r := { code := .ok, words := words })
    (queryWindow_of_part (s := s.setCmd { s.cmd with code := 0x0C }) hpart hwords) rfl

end State

/-- Settles O45. -/
theorem queries : Obligations.Queries := by
  refine ⟨rfl, rfl, rfl, rfl, rfl, rfl, fun _ => rfl, rfl, fun _ => rfl, fun word =>
    ⟨channelField_none word, fun _ => channelField_val, windowField_none word, fun _ => windowField_val⟩,
    fun s hup => ⟨fun hbad => ?_, fun c hc => ?_, fun hbad => ?_, fun w hw => ?_⟩⟩
  · exact State.channelCommand_of_bad hup hbad 0x05 fun s c => (s, { code := .ok, words := channelWords (s.chan c) })
  · intro ch
    refine ⟨channelWords ch, ?_, fun hstaged hflush hlimits => ?_⟩
    · exact State.channelCommand_answered hup hc (t := s) (r := { code := .ok, words := channelWords ch })
        (act := fun s c => (s, { code := .ok, words := channelWords (s.chan c) })) (fun _ => rfl) rfl
    · obtain ⟨hstate, hcount, hflushed, hsome⟩ := getField_channelWords_common hstaged hflush
      have hstatus := getField_channelWords_status fun seg hseg =>
        let ⟨_, _, hheld, hretry⟩ := hlimits seg hseg
        ⟨hheld, hretry⟩
      exact ⟨hstate, hcount, hflushed, hsome,
        fun e hending he => hstatus.trans (endingStatusCode_of_ending hending he),
        fun hother => hstatus.trans (endingStatusCode_of_other hother),
        getField_channelWords_none hstaged hflush,
        fun seg hseg => getField_channelWords_some hstaged hflush hseg (hlimits seg hseg)⟩
  · exact State.windowCommand_of_bad hup hbad 0x0C State.queryWindow
  · intro x part
    refine ⟨fun hpast => ?_, fun hpart => ?_⟩
    · exact State.windowCommand_answered hup hw (act := State.queryWindow) (t := s) (r := reply .badField)
        (State.queryWindow_of_bad (s := s.setCmd { s.cmd with code := 0x0C }) hpast) rfl
    · obtain hpart | hpart | hpart : part = 0 ∨ part = 1 ∨ part = 2 := by omega
      · refine ⟨_, State.queryWindow_answered hup hw hpart State.windowWords_setup, fun _ => ?_, by omega, by omega⟩
        obtain ⟨hstate, hkind, hnotify, hfilter⟩ := getField_setupFields x
        exact ⟨hstate, hkind, hnotify, hfilter, rfl, rfl, rfl⟩
      · exact ⟨_, State.queryWindow_answered hup hw hpart State.windowWords_offsets, by omega, fun _ => rfl, by omega⟩
      · refine ⟨_, State.queryWindow_answered hup hw hpart State.windowWords_notes, by omega, by omega,
          fun _ => ⟨fun hframes => ?_, rfl, fun hqueue => ?_, rfl⟩⟩
        · obtain ⟨hcount, hsome, hsender⟩ := getField_senderFields hframes
          refine ⟨hcount, hsome, fun id hid => hsender.trans ?_⟩
          show optionalId x.lastSender = id.val
          rw [hid]
          rfl
        · obtain ⟨hfault, hqueued, hevent, hsome⟩ :=
            getField_noteFields x (queued := s.queuedOf w) (Nat.le_trans (List.length_filter_le _ _) hqueue)
          refine ⟨hfault, hqueued, hsome, fun e he => hevent.trans ?_⟩
          show noteEventCode x.note = eventCode e
          rw [he]
          rfl

end Sys2Proof.Machine

namespace Sys2Proof.Machine

/-! ## OPEN (R127, Figure 10-11) -/

/-- Figure 10-11: the fields that the command words of an OPEN give, of the kind and notify mode they name. -/
def openedFields (words : Vector Word 4) (kind : WindowKind) (notify : NotifyMode) : OpenFields :=
  { kind := kind, notify := notify, base := words[1], size := words[2].toNat
    filter := BitVec.ofNat 16 (getField words[3] 0 16) }

theorem kindOfCode_eq_some_iff (v : Nat) (kind : WindowKind) : kindOfCode v = some kind ↔ kindCode kind = v := by
  unfold kindOfCode
  split
  · cases kind <;> simp [kindCode]
  · cases kind <;> simp [kindCode]
  · cases kind <;> simp [kindCode]
  next honce hring htable =>
    refine iff_of_false (by simp) ?_
    rintro rfl
    cases kind with
    | once => exact honce rfl
    | ring => exact hring rfl
    | table => exact htable rfl

theorem notifyOfCode_eq_some_iff (v : Nat) (notify : NotifyMode) : notifyOfCode v = some notify ↔ notifyCode notify = v := by
  unfold notifyOfCode
  split
  · cases notify <;> simp [notifyCode]
  · cases notify <;> simp [notifyCode]
  · cases notify <;> simp [notifyCode]
  next hnone htenure hend =>
    refine iff_of_false (by simp) ?_
    rintro rfl
    cases notify with
    | none => exact hnone rfl
    | eachTenure => exact htenure rfl
    | segmentEnd => exact hend rfl

/-- Figure 10-11: of the kind codes of two bits only 3 is out of range. -/
theorem exists_kindCode_iff (v : Nat) (h : v < 4) : (∃ kind, kindCode kind = v) ↔ v ≠ 3 := by
  constructor
  · rintro ⟨kind, rfl⟩
    cases kind <;> decide
  · intro hne
    obtain rfl | rfl | rfl : v = 0 ∨ v = 1 ∨ v = 2 := by omega
    · exact ⟨.once, rfl⟩
    · exact ⟨.ring, rfl⟩
    · exact ⟨.table, rfl⟩

/-- Figure 10-11: of the notify codes of two bits only 3 is out of range. -/
theorem exists_notifyCode_iff (v : Nat) (h : v < 4) : (∃ notify, notifyCode notify = v) ↔ v ≠ 3 := by
  constructor
  · rintro ⟨notify, rfl⟩
    cases notify <;> decide
  · intro hne
    obtain rfl | rfl | rfl : v = 0 ∨ v = 1 ∨ v = 2 := by omega
    · exact ⟨.none, rfl⟩
    · exact ⟨.eachTenure, rfl⟩
    · exact ⟨.segmentEnd, rfl⟩

/-- R127: what OPEN accepts: a window, a kind, a notify mode, and valid fields. -/
theorem openFields_eq_some {words : Vector Word 4} {w : WindowNo} {f : OpenFields} :
    openFields words = some (w, f) ↔
      windowField words[0] = some w ∧ kindCode f.kind = getField words[0] 8 2 ∧
        notifyCode f.notify = getField words[0] 12 2 ∧ f = openedFields words f.kind f.notify ∧ f.valid = true := by
  rw [← kindOfCode_eq_some_iff, ← notifyOfCode_eq_some_iff, openFields]
  cases windowField words[0] with
  | none => simp
  | some v =>
    cases kindOfCode (getField words[0] 8 2) with
    | none => simp
    | some kind =>
      cases notifyOfCode (getField words[0] 12 2) with
      | none => simp
      | some notify =>
        show (if (openedFields words kind notify).valid = true then some (v, openedFields words kind notify) else none) = _ ↔ _
        constructor
        · intro h
          split at h
          next hvalid =>
            cases h
            exact ⟨rfl, rfl, rfl, rfl, hvalid⟩
          next => cases h
        · rintro ⟨⟨⟩, hkind, hnotify, hf, hvalid⟩
          cases Option.some.inj hkind
          cases Option.some.inj hnotify
          rw [← hf, if_pos hvalid]

theorem openedFields_valid_iff (words : Vector Word 4) (kind : WindowKind) (notify : NotifyMode) :
    (openedFields words kind notify).valid = true ↔
      words[1].toNat % 4 = 0 ∧ 1 ≤ words[2].toNat ∧ words[2].toNat ≤ 1048576 ∧
        words[1].toNat + words[2].toNat ≤ 2 ^ 32 ∧ getField words[3] 0 16 ≠ 0 := by
  rw [OpenFields.valid_iff]
  refine and_congr_right' <| and_congr_right' <| and_congr_right' <| and_congr_right' <| not_congr ?_
  show BitVec.ofNat 16 (getField words[3] 0 16) = 0 ↔ _
  rw [← BitVec.toNat_inj, BitVec.toNat_ofNat, Nat.mod_eq_of_lt (getField_lt words[3] 0 16)]
  rfl

theorem exists_windowField_iff (word : Word) : (∃ w, windowField word = some w) ↔ ¬ 15 < word.toNat % 256 := by
  rw [← windowField_none, ← Option.isSome_iff_exists]
  exact Option.isSome_iff_ne_none

theorem openFields_eq_none (words : Vector Word 4) :
    openFields words = none ↔
      ¬ (¬ 15 < words[0].toNat % 256 ∧ getField words[0] 8 2 ≠ 3 ∧ getField words[0] 12 2 ≠ 3 ∧
        words[1].toNat % 4 = 0 ∧ 1 ≤ words[2].toNat ∧ words[2].toNat ≤ 1048576 ∧
        words[1].toNat + words[2].toNat ≤ 2 ^ 32 ∧ getField words[3] 0 16 ≠ 0) := by
  rw [← exists_windowField_iff, ← exists_kindCode_iff _ (getField_lt _ 8 2), ← exists_notifyCode_iff _ (getField_lt _ 12 2),
    Option.eq_none_iff_forall_ne_some]
  constructor
  · rintro hnone ⟨⟨w, hw⟩, ⟨kind, hkind⟩, ⟨notify, hnotify⟩, hvalid⟩
    exact hnone (w, openedFields words kind notify)
      (openFields_eq_some.2 ⟨hw, hkind, hnotify, rfl, (openedFields_valid_iff words kind notify).2 hvalid⟩)
  · rintro hbad ⟨w, f⟩ hsome
    obtain ⟨hw, hkind, hnotify, hf, hvalid⟩ := openFields_eq_some.1 hsome
    rw [hf] at hvalid
    exact hbad ⟨⟨w, hw⟩, ⟨f.kind, hkind⟩, ⟨f.notify, hnotify⟩, (openedFields_valid_iff words f.kind f.notify).1 hvalid⟩

theorem openFields_words {words : Vector Word 4} {w : WindowNo} {f : OpenFields} (h : openFields words = some (w, f)) :
    w.val = words[0].toNat % 256 ∧ kindCode f.kind = getField words[0] 8 2 ∧
      notifyCode f.notify = getField words[0] 12 2 ∧ f.base = words[1] ∧ f.size = words[2].toNat ∧
      f.filter.toNat = getField words[3] 0 16 := by
  obtain ⟨hw, hkind, hnotify, hf, -⟩ := openFields_eq_some.1 h
  have hfilter : (openedFields words f.kind f.notify).filter.toNat = getField words[3] 0 16 :=
    (BitVec.toNat_ofNat _ _).trans (Nat.mod_eq_of_lt (getField_lt words[3] 0 16))
  refine ⟨windowField_val hw, hkind, hnotify, ?_, ?_, ?_⟩
  · rw [hf]
    rfl
  · rw [hf]
    rfl
  · rw [hf]
    exact hfilter

/-! ## Window commands (R127 to R132) -/

namespace State

variable {s : State} {w : WindowNo}

theorem openCommand_of_bad (h : openFields s.cmd.words = none) : s.openCommand = (s, reply .badField) := by
  rw [State.openCommand, h]

theorem openCommand_of_closed {f : OpenFields} (h : openFields s.cmd.words = some (w, f))
    (hclosed : (s.win w).state = .closed) : s.openCommand = (s.setWin w ((s.win w).opening f), reply .ok) := by
  rw [State.openCommand, h]
  exact if_pos hclosed

theorem openCommand_of_other {f : OpenFields} (h : openFields s.cmd.words = some (w, f))
    (hstate : (s.win w).state ≠ .closed) : s.openCommand = (s, reply .wrongState) := by
  rw [State.openCommand, h]
  exact if_neg hstate

theorem consumeCommand_of_other (h : (s.win w).state ≠ .opened) : s.consumeCommand w = (s, reply .wrongState) := if_pos h

theorem consumeCommand_of_kind (hopen : (s.win w).state = .opened) (h : (s.win w).kind ≠ .ring) :
    s.consumeCommand w = (s, reply .badField) := (if_neg (Classical.not_not.2 hopen)).trans (if_pos h)

theorem consumeCommand_of_excess (hopen : (s.win w).state = .opened) (hring : (s.win w).kind = .ring)
    (h : ((s.win w).visible - (s.win w).consumed).toNat < s.cmd.words[1].toNat) :
    s.consumeCommand w = (s, reply .badField) :=
  (if_neg (Classical.not_not.2 hopen)).trans ((if_neg (Classical.not_not.2 hring)).trans (if_pos h))

theorem consumeCommand_of_ring (hopen : (s.win w).state = .opened) (hring : (s.win w).kind = .ring)
    (h : s.cmd.words[1].toNat ≤ ((s.win w).visible - (s.win w).consumed).toNat) :
    s.consumeCommand w =
      (s.setWin w { s.win w with consumed := (s.win w).consumed + s.cmd.words[1] }, reply .ok) :=
  (if_neg (Classical.not_not.2 hopen)).trans ((if_neg (Classical.not_not.2 hring)).trans (if_neg (Nat.not_lt.2 h)))

theorem rearmCommand_of_full (h : (s.win w).state = .full) :
    s.rearmCommand w = (s.setWin w (s.win w).rearmed, reply .ok) := if_pos h

theorem rearmCommand_of_other (h : (s.win w).state ≠ .full) : s.rearmCommand w = (s, reply .wrongState) := if_neg h

/-- R128, Figure 7-6: CLOSE at a window with nothing to close. -/
theorem closeCommand_of_other (h : (s.win w).state = .closed ∨ (s.win w).state = .closing) :
    s.closeCommand w = (s, reply .wrongState) := by
  rcases h with h | h
  · rw [State.closeCommand, h]
  · rw [State.closeCommand, h]

theorem closeCommand_of_faulted (h : (s.win w).state = .faulted) :
    s.closeCommand w =
      ((s.setWin w { s.win w with state := .closed, note := some (mergeEvent (s.win w).note .closed) }).offer (.window w),
        reply .ok) := by
  rw [State.closeCommand, h]
  simp only [State.windowEvent, win_setWin_same, setWin_setWin]

theorem closeCommand_of_draining (h : (s.win w).state = .opened ∨ (s.win w).state = .full) :
    s.closeCommand w =
      (((s.setWin w { s.win w with state := .closing }).drainTest w).offer (.window w), reply .ok) := by
  rcases h with h | h
  · rw [State.closeCommand, h]
  · rw [State.closeCommand, h]

/-- R128, R145: a window with nothing queued closes at once. -/
theorem drainTest_closing_of_empty (h : s.hasQueued w = false) :
    (s.setWin w { s.win w with state := .closing }).drainTest w =
      s.setWin w { s.win w with state := .closed, note := some (mergeEvent (s.win w).note .closed) } := by
  rw [drainTest_of_drained]
  · rw [win_setWin_same, setWin_setWin]
  · rw [win_setWin_same]
  · exact h

theorem drainTest_closing_of_queued (h : s.hasQueued w = true) :
    (s.setWin w { s.win w with state := .closing }).drainTest w = s.setWin w { s.win w with state := .closing } := by
  refine drainTest_of_other fun hdrained => ?_
  have hempty : s.hasQueued w = false := hdrained.2
  rw [h] at hempty
  cases hempty

end State

/-- Settles O46. -/
theorem openConsumeRearm : Obligations.OpenConsumeRearm := by
  refine ⟨fun words => ⟨?_, fun w f => openFields_words⟩, windowField_none, fun s hup => ⟨fun hbad => ?_,
    fun w f hfields => ⟨(openFields_eq_some.1 hfields).2.2.2.2, fun hother => ?_, fun hclosed => ?_⟩, fun hbad => ?_,
    fun w hw => ?_⟩⟩
  · rw [openFields_eq_none]
    omega
  · exact s.takeCommand_answered 0x08 State.openCommand s (reply .badField) hup
      (State.openCommand_of_bad (s := s.setCmd { s.cmd with code := 0x08 }) hbad) rfl
  · exact s.takeCommand_answered 0x08 State.openCommand s (reply .wrongState) hup
      (State.openCommand_of_other (s := s.setCmd { s.cmd with code := 0x08 }) hfields hother) rfl
  · exact s.takeCommand_answered 0x08 State.openCommand (s.setWin w ((s.win w).opening f)) (reply .ok) hup
      (State.openCommand_of_closed (s := s.setCmd { s.cmd with code := 0x08 }) hfields hclosed) rfl
  · exact ⟨State.windowCommand_of_bad hup hbad 0x0A State.consumeCommand,
      State.windowCommand_of_bad hup hbad 0x0B State.rearmCommand⟩
  · intro x n
    refine ⟨windowField_val hw, fun hother => ?_, fun hopen hkind => ?_, fun hopen hring hexcess => ?_,
      fun hopen hring hwithin => ?_, fun hother => ?_, fun hfull => ?_⟩
    · exact State.windowCommand_answered hup hw (act := State.consumeCommand) (t := s) (r := reply .wrongState)
        (State.consumeCommand_of_other (s := s.setCmd { s.cmd with code := 0x0A }) hother) rfl
    · exact State.windowCommand_answered hup hw (act := State.consumeCommand) (t := s) (r := reply .badField)
        (State.consumeCommand_of_kind (s := s.setCmd { s.cmd with code := 0x0A }) hopen hkind) rfl
    · exact State.windowCommand_answered hup hw (act := State.consumeCommand) (t := s) (r := reply .badField)
        (State.consumeCommand_of_excess (s := s.setCmd { s.cmd with code := 0x0A }) hopen hring hexcess) rfl
    · exact State.windowCommand_answered hup hw (act := State.consumeCommand)
        (t := s.setWin w { x with consumed := x.consumed + n }) (r := reply .ok)
        (State.consumeCommand_of_ring (s := s.setCmd { s.cmd with code := 0x0A }) hopen hring hwithin) rfl
    · exact State.windowCommand_answered hup hw (act := State.rearmCommand) (t := s) (r := reply .wrongState)
        (State.rearmCommand_of_other (s := s.setCmd { s.cmd with code := 0x0B }) hother) rfl
    · exact State.windowCommand_answered hup hw (act := State.rearmCommand) (t := s.setWin w x.rearmed) (r := reply .ok)
        (State.rearmCommand_of_full (s := s.setCmd { s.cmd with code := 0x0B }) hfull) rfl

/-- Settles O47. -/
theorem close : Obligations.Close := by
  refine ⟨fun word => ⟨windowField_none word, fun _ => windowField_val⟩, fun s hup => ⟨fun hbad => ?_, fun w hw => ?_⟩⟩
  · exact State.windowCommand_of_bad hup hbad 0x09 State.closeCommand
  · intro x closed closing
    refine ⟨fun hother => ?_, fun hfaulted => ?_, fun hopen => ⟨fun hempty => ?_, fun hqueued => ?_⟩⟩
    · exact State.windowCommand_answered hup hw (act := State.closeCommand) (t := s) (r := reply .wrongState)
        (State.closeCommand_of_other (s := s.setCmd { s.cmd with code := 0x09 }) hother) rfl
    · refine State.windowCommand_answered hup hw (act := State.closeCommand) (t := closed.offer (.window w))
        (r := reply .ok) ?_ (closed.offer_cmd _)
      rw [State.closeCommand_of_faulted (s := s.setCmd { s.cmd with code := 0x09 }) hfaulted, State.setCmd_win,
        State.setWin_setCmd, State.offer_setCmd]
      rfl
    · have hnone : s.hasQueued w = false := by
        rw [← Bool.not_eq_true, State.hasQueued_iff]
        exact fun ⟨f, hf, heq⟩ => hempty f hf heq
      refine State.windowCommand_answered hup hw (act := State.closeCommand) (t := closed.offer (.window w))
        (r := reply .ok) ?_ (closed.offer_cmd _)
      rw [State.closeCommand_of_draining (s := s.setCmd { s.cmd with code := 0x09 }) hopen,
        State.drainTest_closing_of_empty (s := s.setCmd { s.cmd with code := 0x09 }) hnone, State.setCmd_win,
        State.setWin_setCmd, State.offer_setCmd]
      rfl
    · have hsome : s.hasQueued w = true := (s.hasQueued_iff w).2 hqueued
      refine State.windowCommand_answered hup hw (act := State.closeCommand) (t := closing.offer (.window w))
        (r := reply .ok) ?_ (closing.offer_cmd _)
      rw [State.closeCommand_of_draining (s := s.setCmd { s.cmd with code := 0x09 }) hopen,
        State.drainTest_closing_of_queued (s := s.setCmd { s.cmd with code := 0x09 }) hsome, State.setCmd_win,
        State.setWin_setCmd, State.offer_setCmd]
      rfl

end Sys2Proof.Machine

namespace Sys2Proof.Machine

/-! ## LEAVE and JOIN (R58, R59, R60) -/

namespace State

variable {s : State}

theorem note_setCmd (x : CommandPort) (n : NoteReason) : (s.setCmd x).note n = (s.note n).setCmd x :=
  offer_setCmd (s.setMembership { s.membership with note := some n }) x .membership

theorem note_cmd (n : NoteReason) : (s.note n).cmd = s.cmd :=
  offer_cmd (s.setMembership { s.membership with note := some n }) .membership

theorem leaveCommand_of_member (h : s.membership.link = .member) :
    s.leaveCommand = (s.enter .leaving none, reply .ok) := by
  rw [State.leaveCommand, h]

theorem leaveCommand_of_entering (h : s.membership.link = .listening ∨ s.membership.link = .joining) :
    s.leaveCommand = (s.enterWithNote .out .left, reply .ok) := by
  rcases h with h | h
  · rw [State.leaveCommand, h]
  · rw [State.leaveCommand, h]

theorem leaveCommand_of_other (h : s.membership.link = .leaving ∨ s.membership.link = .out) :
    s.leaveCommand = (s, reply .wrongState) := by
  rcases h with h | h
  · rw [State.leaveCommand, h]
  · rw [State.leaveCommand, h]

theorem joinCommand_of_out (h : s.membership.link = .out) : s.joinCommand = (s.enter .listening none, reply .ok) := by
  rw [State.joinCommand, h]

theorem joinCommand_of_other (h : s.membership.link ≠ .out) : s.joinCommand = (s, reply .wrongState) := by
  unfold State.joinCommand
  split
  next hout => exact absurd hout h
  all_goals rfl

end State

/-- Settles O48. -/
theorem leaveAndJoin : Obligations.LeaveAndJoin := by
  refine fun s => ⟨fun hmember => ?_, fun hentering => ?_, fun hother => ?_, fun hout => ?_, fun hother hup => ?_⟩
  · exact s.takeCommand_answered 0x10 State.leaveCommand (s.enter .leaving none) (reply .ok) (by simp [hmember])
      (State.leaveCommand_of_member (s := s.setCmd { s.cmd with code := 0x10 }) hmember) rfl
  · refine s.takeCommand_answered 0x10 State.leaveCommand (s.enterWithNote .out .left) (reply .ok) ?_ ?_
      (State.note_cmd (s := s.enter .out (some .left)) _)
    · rcases hentering with h | h
      · simp [h]
      · simp [h]
    · rw [State.leaveCommand_of_entering (s := s.setCmd { s.cmd with code := 0x10 }) hentering]
      exact congrArg (·, reply .ok) (State.note_setCmd (s := s.enter .out (some .left)) _ _)
  · refine s.takeCommand_answered 0x10 State.leaveCommand s (reply .wrongState) ?_
      (State.leaveCommand_of_other (s := s.setCmd { s.cmd with code := 0x10 }) hother) rfl
    rcases hother with h | h
    · simp [h]
    · simp [h]
  · exact s.takeCommand_answered 0x11 State.joinCommand (s.enter .listening none) (reply .ok) (by simp [hout])
      (State.joinCommand_of_out (s := s.setCmd { s.cmd with code := 0x11 }) hout) rfl
  · exact s.takeCommand_answered 0x11 State.joinCommand s (reply .wrongState) hup
      (State.joinCommand_of_other (s := s.setCmd { s.cmd with code := 0x11 }) hother) rfl

end Sys2Proof.Machine

namespace Sys2Proof.Machine

/-! ## Notes and their records (R60, R61, R80, R144, R160) -/

/-- R144: how an event joins a pending note. -/
theorem mergeEvent_rules (e p : WindowEvent) (a : Word) :
    mergeEvent none e = e ∧ mergeEvent (some p) .progress = p ∧
      ((∀ b, p ≠ .fault b) → e ≠ .progress → mergeEvent (some p) e = e) ∧
      ((∀ b, e ≠ .fault b) → mergeEvent (some (.fault a)) e = .fault a) ∧
      mergeEvent (some p) (.fault a) = .fault a := by
  refine ⟨rfl, ?_, fun hp he => ?_, fun he => ?_, ?_⟩
  · cases p <;> rfl
  · cases p with
    | progress => cases e <;> rfl
    | full =>
      cases e with
      | progress => exact absurd rfl he
      | _ => rfl
    | closed =>
      cases e with
      | progress => exact absurd rfl he
      | _ => rfl
    | fault b => exact absurd rfl (hp b)
  · cases e with
    | fault b => exact absurd rfl (he b)
    | _ => rfl
  · cases p <;> rfl

theorem landingValue_of_other (visible : Word) {e : WindowEvent} (h : ∀ a, e ≠ .fault a) :
    landingValue visible e = visible := by
  cases e with
  | fault a => exact absurd rfl (h a)
  | _ => rfl

/-- Settles O49. -/
theorem notesAndGrants : Obligations.NotesAndGrants := by
  refine ⟨fun s n => ⟨s.note_of_full n, s.note_of_room n⟩, mergeEvent_rules, fun s n hnote => ?_, fun s c e hending => ?_,
    fun s c hending hflushed => ?_, fun s w e hnote => ⟨landingValue (s.win w).visible e, ?_, ?_, ?_⟩⟩
  · rw [s.grant_membership hnote]
    rfl
  · rw [s.grant_channel_ending hending]
    rfl
  · rw [s.grant_channel_flushed hending hflushed]
    rfl
  · rintro a rfl
    rfl
  · exact landingValue_of_other _
  · rw [s.grant_window hnote]
    rfl

/-! ## POP and the freed slot (R158 to R160, R162) -/

theorem searchOrder_sorted (pointer : Producer) :
    (searchOrder pointer).Pairwise fun p q => producerDistance pointer p < producerDistance pointer q := by
  have hsorted : ((searchOrder pointer).map (producerDistance pointer)).Pairwise (· < ·) := by
    rw [searchOrder_distances]
    exact List.pairwise_lt_range
  exact List.pairwise_map.1 hsorted

namespace State

variable {s : State}

/-- R159: the freed slot goes to the waiting producer that stands first after the grant pointer. -/
theorem nextWaiting_eq_some_iff {p : Producer} :
    s.nextWaiting = some p ↔ s.waiting p = true ∧
      ∀ q, s.waiting q = true → producerDistance s.log.pointer p ≤ producerDistance s.log.pointer q := by
  rw [State.nextWaiting, find?_eq_some_iff_least (searchOrder_sorted s.log.pointer)]
  constructor
  · exact fun ⟨_, hwaits, hleast⟩ => ⟨hwaits, fun q => hleast q (mem_searchOrder _ q)⟩
  · exact fun ⟨hwaits, hleast⟩ => ⟨mem_searchOrder _ p, hwaits, fun q _ => hleast q⟩

theorem nextWaiting_of_quiet (h : ∀ p, s.waiting p = false) : s.nextWaiting = none :=
  List.find?_eq_none.2 fun p _ => Bool.not_eq_true _ ▸ h p

theorem grantFreed_of_full (h : 32 ≤ s.log.records.length) : s.grantFreed = s :=
  if_neg fun hroom => Nat.not_lt.2 h (s.logHasRoom_iff.1 hroom)

theorem grantFreed_of_quiet (h : ∀ p, s.waiting p = false) : s.grantFreed = s := by
  unfold State.grantFreed
  split
  · rw [nextWaiting_of_quiet h]
  · rfl

theorem grantFreed_of_waiting (hroom : s.log.records.length < 32) {p : Producer} (h : s.nextWaiting = some p) :
    s.grantFreed = s.grant p := by
  rw [State.grantFreed, if_pos (s.logHasRoom_iff.2 hroom), h]

theorem popRecord_of_empty (h : s.log.records = []) : s.popRecord = s := by
  rw [State.popRecord, h]

theorem popRecord_of_cons {r : Record} {rest : List Record} (h : s.log.records = r :: rest) :
    s.popRecord = (s.setLog { s.log with records := rest }).grantFreed := by
  rw [State.popRecord, h]

end State

theorem execPop_eq {s : State} (enable : Bool) (hup : s.membership.link ≠ .down) :
    exec (.pop enable) s = .next (s.setEnable enable).popRecord := if_neg hup

/-- Settles O50. -/
theorem popAndTheFreedSlot : Obligations.PopAndTheFreedSlot := by
  refine ⟨fun s enable hup => ?_, fun s => ⟨rfl, fun c => ?_, fun w => rfl⟩⟩
  · intro enabled
    refine ⟨fun hempty => ?_, fun r rest hrecords => ?_⟩
    · rw [execPop_eq enable hup, State.popRecord_of_empty (s := s.setEnable enable) hempty]
      rfl
    · intro popped
      have hexec : exec (.pop enable) s = .next popped.grantFreed := by
        rw [execPop_eq enable hup, State.popRecord_of_cons (s := s.setEnable enable) hrecords]
        rfl
      have hwaiting (p : Producer) : popped.waiting p = s.waiting p := by cases p <;> rfl
      refine ⟨fun hnone => ?_, fun p hroom hwaits hleast => ?_⟩
      · have hkept : popped.grantFreed = popped := by
          rcases hnone with hfull | hquiet
          · exact State.grantFreed_of_full hfull
          · exact State.grantFreed_of_quiet fun p => (hwaiting p).trans (hquiet p)
        rw [hexec, hkept]
      · have hnext : popped.nextWaiting = some p :=
          State.nextWaiting_eq_some_iff.2 ⟨(hwaiting p).trans hwaits, fun q hq => hleast q ((hwaiting q).symm.trans hq)⟩
        rw [hexec, State.grantFreed_of_waiting (s := popped) hroom hnext]
  · simp [State.waiting]

end Sys2Proof.Machine

namespace Sys2Proof.Machine

open PackedField

/-! ## The words of the register window (R162, R165, R168, R169, Figures 10-6 to 10-8) -/

theorem linkCode_lt (x : LinkState) : linkCode x < 8 := by cases x <;> decide

theorem reasonCode_lt (x : NoteReason) : reasonCode x < 16 := by
  cases x with
  | change r => cases r <;> decide
  | listChanged => decide

theorem modeCode_lt (x : BusMode) : modeCode x < 2 := by cases x <;> decide

theorem intervalCode_lt (x : Interval) : intervalCode x < 4 := by cases x <;> decide

theorem resultCodeValue_lt (x : ResultCode) : resultCodeValue x < 8 := by cases x <;> decide

/-- A value put at the bottom of a word is the word's value. -/
theorem toNat_putField_zero {v : Nat} (h : v < 2 ^ 32) : (putField 0 v).toNat = v := by
  rw [putField, Nat.shiftLeft_zero, BitVec.toNat_ofNat, Nat.mod_eq_of_lt h]

namespace State

variable {s : State}

theorem readWord_command (hup : s.membership.link ≠ .down) (i : Fin 4) :
    s.readWord ⟨i.val, by omega⟩ = s.cmd.words[i] := by
  rw [State.readWord, if_neg hup]
  match i with
  | 0 => rfl
  | 1 => rfl
  | 2 => rfl
  | 3 => rfl

theorem readWord_result (hup : s.membership.link ≠ .down) (i : Fin 4) :
    s.readWord ⟨i.val + 6, by omega⟩ = s.cmd.results[i] := by
  rw [State.readWord, if_neg hup]
  match i with
  | 0 => rfl
  | 1 => rfl
  | 2 => rfl
  | 3 => rfl

theorem readWord_head (hup : s.membership.link ≠ .down) (i : Fin 4) :
    s.readWord ⟨i.val + 12, by omega⟩ = s.headWords[i] := by
  rw [State.readWord, if_neg hup]
  match i with
  | 0 => rfl
  | 1 => rfl
  | 2 => rfl
  | 3 => rfl

theorem readWord_code (hup : s.membership.link ≠ .down) : s.readWord 4 = putField 0 s.cmd.code.toNat := if_neg hup

theorem readWord_resultCode (hup : s.membership.link ≠ .down) :
    s.readWord 5 = putField 0 (resultCodeValue s.cmd.result) := if_neg hup

theorem readWord_status (hup : s.membership.link ≠ .down) : s.readWord 10 = s.statusWord := if_neg hup

theorem headWords_of_empty (h : s.log.records = []) (i : Fin 4) : s.headWords[i] = 0 := by
  rw [State.headWords, h]
  exact Vector.getElem_replicate _

theorem headWords_of_cons {r : Record} {rest : List Record} (h : s.log.records = r :: rest) :
    s.headWords = recordWords r := by
  rw [State.headWords, h]

/-- R162: the record words show the head of the log. -/
theorem readWord_record (hup : s.membership.link ≠ .down) {r : Record} {rest : List Record}
    (h : s.log.records = r :: rest) :
    s.readWord 12 = (recordWords r)[0] ∧ s.readWord 13 = (recordWords r)[1] ∧ s.readWord 14 = (recordWords r)[2] ∧
      s.readWord 15 = (recordWords r)[3] := by
  rw [← headWords_of_cons h]
  exact ⟨readWord_head hup 0, readWord_head hup 1, readWord_head hup 2, readWord_head hup 3⟩

end State

/-! ## The fields of the records, and of the status and log control words (Figures 10-7, 10-8 and 10-14) -/

/-- Figure 10-14: word 0 of a SEGMENT_END record. -/
def segmentEndFields (e : SegmentEnd) : List PackedField :=
  [⟨0, 4, 1⟩, ⟨4, 2, e.channel.val⟩, ⟨8, 3, statusCode e.status⟩, ⟨12, 1, flagCode e.repeats⟩, ⟨13, 1, flagCode e.notify⟩,
    ⟨16, 16, e.tag.toNat⟩]

/-- Figure 10-14: word 0 of a FLUSHED record. -/
def flushedFields (c : ChannelNo) : List PackedField := [⟨0, 4, 2⟩, ⟨4, 2, c.val⟩]

/-- Figure 10-14: word 0 of a LANDING record. -/
def landingFields (l : LandingRecord) : List PackedField :=
  [⟨0, 4, 3⟩, ⟨4, 4, l.window.val⟩, ⟨8, 2, eventCode l.event⟩, ⟨12, 1, flagCode l.lastSender.isSome⟩,
    ⟨16, 4, optionalId l.lastSender⟩]

/-- Figure 10-14: word 0 of a MEMBERSHIP record. -/
def membershipFields (m : MembershipRecord) : List PackedField :=
  [⟨0, 4, 4⟩, ⟨4, 3, linkCode m.link⟩, ⟨8, 4, reasonCode m.reason⟩, ⟨12, 1, flagCode m.rank.isSome⟩,
    ⟨16, 4, m.rank.getD 0⟩, ⟨20, 5, m.memberCount⟩, ⟨25, 1, modeCode m.mode⟩, ⟨26, 2, intervalCode m.interval⟩]

/-- Figure 10-7: the station status word. -/
def statusFields (s : State) : List PackedField :=
  [⟨0, 3, linkCode s.membership.link⟩, ⟨4, 4, s.straps.id.val⟩, ⟨8, 1, flagCode s.ownRank.isSome⟩,
    ⟨12, 4, s.ownRank.getD 0⟩, ⟨16, 5, s.memberCount⟩, ⟨21, 1, modeCode s.membership.mode⟩,
    ⟨22, 2, intervalCode s.membership.interval⟩, ⟨24, 1, flagCode s.order.disagree⟩, ⟨26, 6, s.log.records.length⟩]

/-- Figure 10-8: the log control word. -/
def controlFields (s : State) : List PackedField :=
  [⟨0, 1, flagCode s.cmd.intEnable⟩, ⟨2, 1, flagCode s.intLevel⟩, ⟨8, 6, s.log.records.length⟩]

theorem recordWords_segmentEnd (e : SegmentEnd) :
    recordWords (.segmentEnd e) = #v[pack (segmentEndFields e), putField 0 e.committed, putField 0 e.retry, 0] := rfl

theorem recordWords_flushed (c : ChannelNo) (count : Nat) :
    recordWords (.flushed c count) = #v[pack (flushedFields c), putField 0 count, 0, 0] := rfl

theorem recordWords_landing (l : LandingRecord) :
    recordWords (.landing l) = #v[pack (landingFields l), l.value, putField 0 l.frames, 0] := rfl

theorem recordWords_membership (m : MembershipRecord) :
    recordWords (.membership m) = #v[pack (membershipFields m), 0, 0, 0] := rfl

theorem statusWord_eq_pack (s : State) : s.statusWord = pack (statusFields s) := rfl

theorem logControlWord_eq_pack (s : State) : s.logControlWord = pack (controlFields s) := rfl

theorem segmentEndFields_shown (e : SegmentEnd) : Shown (segmentEndFields e) := by
  have hchannel := e.channel.isLt
  have hstatus := statusCode_lt e.status
  have hrepeats := flagCode_lt_two e.repeats
  have hnotify := flagCode_lt_two e.notify
  have htag := e.tag.isLt
  refine getField_pack ?_ (by simp [segmentEndFields, Before])
  simp only [segmentEndFields, List.forall_mem_cons, Fits, List.not_mem_nil, false_imp_iff, implies_true, and_true]
  omega

theorem flushedFields_fit (c : ChannelNo) : ∀ f ∈ flushedFields c, f.Fits := by
  have hchannel := c.isLt
  simp only [flushedFields, List.forall_mem_cons, Fits, List.not_mem_nil, false_imp_iff, implies_true, and_true]
  omega

theorem flushedFields_shown (c : ChannelNo) : Shown (flushedFields c) :=
  getField_pack (flushedFields_fit c) (by simp [flushedFields, Before])

theorem landingFields_shown (l : LandingRecord) : Shown (landingFields l) := by
  have hwindow := l.window.isLt
  have hevent := eventCode_lt l.event
  have hsome := flagCode_lt_two l.lastSender.isSome
  have hsender := optionalId_lt l.lastSender
  refine getField_pack ?_ (by simp [landingFields, Before])
  simp only [landingFields, List.forall_mem_cons, Fits, List.not_mem_nil, false_imp_iff, implies_true, and_true]
  omega

theorem getD_lt {rank : Option Nat} {n : Nat} (hpos : 0 < n) (h : ∀ k, rank = some k → k < n) : rank.getD 0 < n := by
  cases rank with
  | none => exact hpos
  | some k => exact h k rfl

theorem membershipFields_shown {m : MembershipRecord} (hcount : m.memberCount ≤ 16)
    (hrank : ∀ rank, m.rank = some rank → rank < 16) : Shown (membershipFields m) := by
  have hlink := linkCode_lt m.link
  have hreason := reasonCode_lt m.reason
  have hsome := flagCode_lt_two m.rank.isSome
  have hrank := getD_lt (by decide) hrank
  have hmode := modeCode_lt m.mode
  have hinterval := intervalCode_lt m.interval
  refine getField_pack ?_ (by simp [membershipFields, Before])
  simp only [membershipFields, List.forall_mem_cons, Fits, List.not_mem_nil, false_imp_iff, implies_true, and_true]
  omega

theorem ownRank_lt {s : State} {rank : Nat} (h : s.ownRank = some rank) : rank < s.memberCount := by
  obtain ⟨hlt, -⟩ := List.findIdx?_eq_some_iff_getElem.1 h
  exact hlt

theorem statusFields_shown {s : State} (hcount : s.memberCount ≤ 16) (hlog : s.log.records.length ≤ 32) :
    Shown (statusFields s) := by
  have hlink := linkCode_lt s.membership.link
  have hid := s.straps.id.isLt
  have hsome := flagCode_lt_two s.ownRank.isSome
  have hrank : s.ownRank.getD 0 < 16 := getD_lt (by decide) fun rank h => Nat.lt_of_lt_of_le (ownRank_lt h) hcount
  have hmode := modeCode_lt s.membership.mode
  have hinterval := intervalCode_lt s.membership.interval
  have hdisagree := flagCode_lt_two s.order.disagree
  refine getField_pack ?_ (by simp [statusFields, Before])
  simp only [statusFields, List.forall_mem_cons, Fits, List.not_mem_nil, false_imp_iff, implies_true, and_true]
  omega

theorem controlFields_fit {s : State} (hlog : s.log.records.length ≤ 32) : ∀ f ∈ controlFields s, f.Fits := by
  have henable := flagCode_lt_two s.cmd.intEnable
  have hlevel := flagCode_lt_two s.intLevel
  simp only [controlFields, List.forall_mem_cons, Fits, List.not_mem_nil, false_imp_iff, implies_true, and_true]
  omega

theorem controlFields_shown {s : State} (hlog : s.log.records.length ≤ 32) : Shown (controlFields s) :=
  getField_pack (controlFields_fit hlog) (by simp [controlFields, Before])

/-! ## Writes (R165, R169) -/

theorem mergedByte_lt (old value : Word) (enables : BitVec 4) (i : Nat) : mergedByte old value enables i < 256 := by
  unfold mergedByte
  split
  · exact BitVec.isLt _
  · exact BitVec.isLt _

/-- R169: a write takes the bytes whose enables are set and keeps the others. -/
theorem byteOf_mergeBytes (old value : Word) (enables : BitVec 4) {lane : Nat} (hlane : lane < 4) :
    byteOf (mergeBytes old value enables) lane = if enables.getLsbD lane then byteOf value lane else byteOf old lane := by
  rw [mergeBytes, byteOf_lanes (mergedByte old value enables) (mergedByte_lt old value enables) hlane, mergedByte]
  split
  · rw [BitVec.ofNat_toNat, BitVec.setWidth_eq]
  · rw [BitVec.ofNat_toNat, BitVec.setWidth_eq]

theorem registerWrite_command {s : State} (hup : s.membership.link ≠ .down) (i : Fin 4) (value : Word) (enables : BitVec 4) :
    exec (.registerWrite (.command i) value enables) s =
      .next (s.setCmd { s.cmd with words := s.cmd.words.set i (mergeBytes s.cmd.words[i] value enables) }) := if_neg hup

theorem registerWrite_readOnly {s : State} {w : PlainWord} (h : ∀ i, w ≠ .command i) (value : Word) (enables : BitVec 4) :
    exec (.registerWrite w value enables) s = .next s := by
  show execRegisterWrite w value enables s = _
  unfold execRegisterWrite
  split
  · rfl
  · cases w with
    | command i => exact absurd rfl (h i)
    | _ => rfl

theorem unknownCommand_answered {s : State} (hup : s.membership.link ≠ .down) {code : BitVec 8}
    (h : knownCodes.contains code = false) :
    exec (.unknownCommand code) s = .next (s.answered code .unknownCommand noWords) := by
  have hexec : exec (.unknownCommand code) s = s.takeCommand code fun s => (s, reply .unknownCommand) :=
    if_neg (by rw [h]; exact Bool.false_ne_true)
  rw [hexec]
  exact s.takeCommand_answered code _ s (reply .unknownCommand) hup rfl rfl

/-- Settles O53. -/
theorem registerReadsAndWrites : Obligations.RegisterReadsAndWrites := by
  refine ⟨rfl, rfl, rfl, rfl, rfl, rfl, rfl, fun _ => rfl, fun s hup => ⟨fun i index => ⟨fun h => ?_, fun h => ?_,
    fun hempty h => ?_⟩, ?_, ?_, fun e rest hrecords hcommitted hretry => ?_, fun c count rest hrecords hcount => ?_,
    fun l rest hrecords hframes => ?_, fun m rest hrecords hcount hrank => ?_, fun hcount hlog => ?_,
    fun i value enables => ⟨mergeBytes s.cmd.words[i] value enables, fun lane => byteOf_mergeBytes _ _ _,
      registerWrite_command hup i value enables⟩, fun w value enables h => registerWrite_readOnly h value enables,
    fun enable => if_neg hup, fun code => unknownCommand_answered hup⟩⟩
  · rw [← State.readWord_command hup i]
    exact congrArg s.readWord (Fin.ext h)
  · rw [← State.readWord_result hup i]
    exact congrArg s.readWord (Fin.ext h)
  · rw [← State.headWords_of_empty hempty i, ← State.readWord_head hup i]
    exact congrArg s.readWord (Fin.ext h)
  · rw [State.readWord_code hup, toNat_putField_zero (Nat.lt_trans s.cmd.code.isLt (by decide))]
  · rw [State.readWord_resultCode hup, toNat_putField_zero (Nat.lt_trans (resultCodeValue_lt _) (by decide))]
  · obtain ⟨h0, h1, h2, h3⟩ := State.readWord_record hup hrecords
    obtain ⟨hkind, hchannel, hstatus, hrepeats, hnotify, htag⟩ := segmentEndFields_shown e
    rw [h0, h1, h2, h3, recordWords_segmentEnd]
    exact ⟨hkind, hchannel, hstatus, hrepeats, hnotify, htag, toNat_putField_zero (by omega),
      toNat_putField_zero (by omega), rfl⟩
  · obtain ⟨h0, h1, h2, h3⟩ := State.readWord_record hup hrecords
    obtain ⟨hkind, hchannel⟩ := flushedFields_shown c
    rw [h0, h1, h2, h3, recordWords_flushed]
    exact ⟨hkind, hchannel, getField_pack_of_disjoint (flushedFields_fit c) (by simp [flushedFields]),
      toNat_putField_zero (by omega), rfl, rfl⟩
  · obtain ⟨h0, h1, h2, h3⟩ := State.readWord_record hup hrecords
    obtain ⟨hkind, hwindow, hevent, hsome, hsender⟩ := landingFields_shown l
    rw [h0, h1, h2, h3, recordWords_landing]
    refine ⟨hkind, hwindow, hevent, hsome, fun id hid => hsender.trans ?_, rfl, toNat_putField_zero (by omega), rfl⟩
    show optionalId l.lastSender = id.val
    rw [hid]
    rfl
  · obtain ⟨h0, h1, h2, h3⟩ := State.readWord_record hup hrecords
    obtain ⟨hkind, hlink, hreason, hsome, hvalue, hmembers, hmode, hinterval⟩ := membershipFields_shown hcount hrank
    rw [h0, h1, h2, h3, recordWords_membership]
    refine ⟨hkind, hlink, hreason, hsome, fun rank h => hvalue.trans ?_, hmembers, hmode, hinterval, rfl, rfl, rfl⟩
    show m.rank.getD 0 = rank
    rw [h]
    rfl
  · intro status control
    obtain ⟨hlink, hid, hsome, hrank, hmembers, hmode, hinterval, hdisagree, hrecords⟩ := statusFields_shown hcount hlog
    obtain ⟨henable, hlevel, hcontrol⟩ := controlFields_shown hlog
    have hstatusWord : status = pack (statusFields s) := State.readWord_status hup
    have hcontrolWord : control = pack (controlFields s) := State.readWord_logControl hup
    rw [hstatusWord, hcontrolWord]
    exact ⟨hlink, hid, hsome, hrank, hmembers, hmode, hinterval, hdisagree, hrecords, henable,
      getField_pack_of_disjoint (controlFields_fit hlog) (by simp [controlFields]), hlevel, hcontrol⟩

end Sys2Proof.Machine

namespace Sys2Proof.Machine

open PackedField

/-! ## The host's words (R63, R127, Figures 10-10 and 10-11) -/

/-- Figure 10-10: word 2 of a PUSH. -/
def destinationFields (r : SegmentRecord) : List PackedField :=
  [⟨0, 5, destCode r.dest⟩, ⟨8, 4, r.window.val⟩, ⟨12, 4, r.tenureSize⟩, ⟨16, 16, r.tag.toNat⟩]

/-- Figure 10-10: word 3 of a PUSH. -/
def optionFields (c : ChannelNo) (r : SegmentRecord) : List PackedField :=
  [⟨0, 20, r.offset.getD 0⟩, ⟨20, 1, flagCode (r.pacing == .paced)⟩, ⟨21, 1, flagCode r.repeats⟩,
    ⟨22, 1, flagCode r.notify⟩, ⟨23, 1, flagCode r.offset.isSome⟩, ⟨24, 8, c.val⟩]

/-- Figure 10-11: word 0 of an OPEN. -/
def windowFields (w : WindowNo) (f : OpenFields) : List PackedField :=
  [⟨0, 8, w.val⟩, ⟨8, 2, kindCode f.kind⟩, ⟨12, 2, notifyCode f.notify⟩]

theorem pushWords_eq (c : ChannelNo) (r : SegmentRecord) :
    pushWords c r = #v[r.source, BitVec.ofNat 32 r.length, pack (destinationFields r), pack (optionFields c r)] := rfl

theorem openWords_eq (w : WindowNo) (f : OpenFields) :
    openWords w f = #v[pack (windowFields w f), f.base, BitVec.ofNat 32 f.size, putField 0 f.filter.toNat] := rfl

theorem destinationFields_shown {r : SegmentRecord} (h : r.tenureSize ≤ 8) : Shown (destinationFields r) := by
  have hdest := destCode_lt r.dest
  have hwindow := r.window.isLt
  have htag := r.tag.isLt
  refine getField_pack ?_ (by simp [destinationFields, Before])
  simp only [destinationFields, List.forall_mem_cons, Fits, List.not_mem_nil, false_imp_iff, implies_true, and_true]
  omega

theorem optionFields_shown (c : ChannelNo) {r : SegmentRecord} (h : r.offset.getD 0 < 2 ^ 20) :
    Shown (optionFields c r) := by
  have hpaced := flagCode_lt_two (r.pacing == .paced)
  have hrepeats := flagCode_lt_two r.repeats
  have hnotify := flagCode_lt_two r.notify
  have hoffset := flagCode_lt_two r.offset.isSome
  have hchannel := c.isLt
  refine getField_pack ?_ (by simp [optionFields, Before])
  simp only [optionFields, List.forall_mem_cons, Fits, List.not_mem_nil, false_imp_iff, implies_true, and_true]
  omega

theorem windowFields_shown (w : WindowNo) (f : OpenFields) : Shown (windowFields w f) := by
  have hwindow := w.isLt
  have hkind := kindCode_lt f.kind
  have hnotify := notifyCode_lt f.notify
  refine getField_pack ?_ (by simp [windowFields, Before])
  simp only [windowFields, List.forall_mem_cons, Fits, List.not_mem_nil, false_imp_iff, implies_true, and_true]
  omega

/-- A flag put in a word is read back as its bit. -/
theorem getLsbD_of_flag {w : Word} {i : Nat} {b : Bool} (h : getField w i 1 = flagCode b) : w.getLsbD i = b := by
  rw [Bool.eq_iff_iff, ← getField_bit, h, flagCode_eq_one_iff]

theorem destOfCode_destCode (d : Destination) : destOfCode (destCode d) = some d := by
  rw [destOfCode_eq_some_iff]
  cases d with
  | station id => exact .inl ⟨id, rfl, rfl⟩
  | all => exact .inr ⟨rfl, rfl⟩

theorem windowField_of_val {word : Word} {w : WindowNo} (h : getField word 0 8 = w.val) : windowField word = some w := by
  have hlt : getField word 0 8 < 16 := h ▸ w.isLt
  exact (dif_pos hlt).trans (congrArg some (Fin.ext h))

theorem toNat_ofNat_of_le {n : Nat} (h : n ≤ 1048576) : (BitVec.ofNat 32 n).toNat = n := by
  rw [BitVec.toNat_ofNat]
  omega

/-- Figure 10-10: the words of a record give the record back. -/
theorem pushedRecord_pushWords (c : ChannelNo) {r : SegmentRecord} (hvalid : r.valid = true) :
    pushedRecord (pushWords c r) r.dest = r ∧ getField (pushWords c r)[3] 24 8 = c.val ∧
      getField (pushWords c r)[2] 0 5 = destCode r.dest := by
  obtain ⟨hlength, hspan, -, htenure, -, hoffset⟩ := (SegmentRecord.valid_iff r).1 hvalid
  have hfirst : r.offset.getD 0 < 2 ^ 20 := getD_lt (by decide) fun o ho => by
    have := hoffset o ho
    omega
  obtain ⟨hdest, hwindow, hsize, htag⟩ := destinationFields_shown htenure
  obtain ⟨hvalue, hpaced, hrepeats, hnotify, hsome, hchannel⟩ := optionFields_shown c hfirst
  rw [pushWords_eq]
  refine ⟨?_, hchannel, hdest⟩
  obtain ⟨source, length, dest, window, offset, tenureSize, pacing, repeats, notify, tag⟩ := r
  simp only [pushedRecord, SegmentRecord.mk.injEq, true_and]
  refine ⟨rfl, toNat_ofNat_of_le hspan, Fin.ext ?_, ?_, hsize, ?_, getLsbD_of_flag hrepeats, getLsbD_of_flag hnotify, ?_⟩
  · exact (congrArg (· % 16) hwindow).trans (Nat.mod_eq_of_lt window.isLt)
  · refine (ite_congr_of_iff (Bool.eq_iff_iff.1 (getLsbD_of_flag hsome)) (congrArg some hvalue) rfl).trans ?_
    cases offset <;> rfl
  · refine (ite_congr_of_iff (Bool.eq_iff_iff.1 (getLsbD_of_flag hpaced)) rfl rfl).trans ?_
    cases pacing <;> rfl
  · exact (congrArg (BitVec.ofNat 16) htag).trans (by rw [BitVec.ofNat_toNat, BitVec.setWidth_eq])

/-- Figure 10-11: the words of an opening give its fields back. -/
theorem openedFields_openWords (w : WindowNo) {f : OpenFields} (hvalid : f.valid = true) :
    openedFields (openWords w f) f.kind f.notify = f := by
  obtain ⟨-, -, hspan, -, -⟩ := (OpenFields.valid_iff f).1 hvalid
  have hfilter : getField (putField 0 f.filter.toNat) 0 16 = f.filter.toNat :=
    getField_putField_self f.filter.isLt (by decide)
  rw [openWords_eq]
  obtain ⟨kind, notify, base, size, filter⟩ := f
  simp only [openedFields, OpenFields.mk.injEq, true_and]
  exact ⟨rfl, toNat_ofNat_of_le hspan,
    (congrArg (BitVec.ofNat 16) hfilter).trans (by rw [BitVec.ofNat_toNat, BitVec.setWidth_eq])⟩

/-- Settles O60. -/
theorem commandWordsRoundTrip : Obligations.CommandWordsRoundTrip := by
  refine ⟨fun c r hvalid => ?_, fun w f hvalid => ?_⟩
  · obtain ⟨hrecord, hchannel, hdest⟩ := pushedRecord_pushWords c hvalid
    refine pushFields_eq_some.2 ⟨hchannel.symm, r.dest, ?_, hrecord.symm, hvalid⟩
    rw [hdest, destOfCode_destCode]
  · obtain ⟨hwindow, hkind, hnotify⟩ := windowFields_shown w f
    exact openFields_eq_some.2
      ⟨windowField_of_val hwindow, hkind.symm, hnotify.symm, (openedFields_openWords w hvalid).symm, hvalid⟩

end Sys2Proof.Machine

namespace Sys2Proof.Machine

open State

/-! ## What an accepted frame finds (R122, Figure 7-4) -/

/-- The conditions of Figure 7-4 that an accepted frame meets at its window. -/
structure RoomFor (x : Window) (queued : Nat) (f : WireFrame) : Prop where
  opened : x.state = .opened
  once : x.kind = .once → x.accepted.toNat + f.payload.length ≤ x.size
  ring : x.kind = .ring → (x.accepted - x.consumed).toNat + f.payload.length ≤ x.size
  stream : x.kind ≠ .table → f.offset = none
  table : x.kind = .table → ∃ o, f.offset = some o ∧ o.toNat + f.payload.length ≤ x.size
  queue : queued < 16

theorem roomFor_of_accept {x : Window} {queued : Nat} {sender : StationId} {f : WireFrame}
    (h : Machine.frameVote x queued sender f = .accept) : RoomFor x queued f := by
  have hnotRefused : Machine.frameVote x queued sender f ≠ .refuse := by simp [h]
  have hnotDeferred : Machine.frameVote x queued sender f ≠ .retry := by simp [h]
  rw [Ne, frameVote_eq_retry_iff hnotRefused] at hnotDeferred
  rw [Ne, frameVote_eq_refuse_iff, refusesFrame_iff] at hnotRefused
  simp only [not_or, not_and, not_exists, ne_eq, Classical.not_not, Nat.not_lt, Nat.not_le] at hnotDeferred hnotRefused
  obtain ⟨hopen, -, htable, hstream, honce, hoffset, -⟩ := hnotRefused
  obtain ⟨hring, hqueue⟩ := hnotDeferred
  refine ⟨hopen, honce, hring, hstream, fun hkind => ?_, hqueue⟩
  obtain ⟨o, ho⟩ := Option.ne_none_iff_exists'.1 (htable hkind)
  exact ⟨o, ho, hoffset hkind o ho⟩

/-! ## A window and the bytes of its frames in the landing queue (R117 to R119, Figure 7-4) -/

namespace Window

/-- The window fits `tentative` and `released` bytes of its frames in the landing queue: its offsets are apart by them,
they lie within its size, and where it is drained there are none. -/
structure Fits (x : Window) (tentative released : Nat) : Prop where
  offsets : x.isStream = true → (x.state = .opened ∨ x.state = .closing ∨ x.state = .full) →
    x.accepted = x.commitMark + BitVec.ofNat 32 tentative ∧ x.commitMark = x.visible + BitVec.ofNat 32 released
  once : x.OnceSound
  ring : x.RingSound
  drained : (x.state = .closed ∨ x.state = .full ∨ x.state = .faulted) → tentative = 0 ∧ released = 0

/-- What is left of a window without its note and the counts reported with it. -/
def core (x : Window) : Window := { x with committedFrames := 0, lastSender := none, faultAddr := none, note := none }

/-- The place of the window's region, by which the writer's requests are formed. -/
def SamePlace (x y : Window) : Prop := y.kind = x.kind ∧ y.base = x.base ∧ y.size = x.size

theorem SamePlace.refl (x : Window) : SamePlace x x := ⟨rfl, rfl, rfl⟩

theorem samePlace_of_core {x y : Window} (h : y.core = x.core) : SamePlace x y :=
  ⟨(congrArg Window.kind h : _), (congrArg Window.base h : _), (congrArg Window.size h : _)⟩

variable {x : Window} {t r n : Nat}

namespace Fits

theorem core (h : x.Fits t r) : x.core.Fits t r := ⟨h.offsets, h.once, h.ring, h.drained⟩

theorem of_core {y : Window} (h : x.Fits t r) (hcore : y.core = x.core) : y.Fits t r := by
  have hy : y.core.Fits t r := hcore ▸ h.core
  exact ⟨hy.offsets, hy.once, hy.ring, hy.drained⟩

/-- A closed window keeps nothing of its offsets. -/
theorem closed (h : x.state = .closed) : x.Fits 0 0 := by
  refine ⟨fun _ hstate => ?_, ⟨fun hfull => ?_, fun _ hstate => ?_⟩, fun _ hstate => ?_, fun _ => ⟨rfl, rfl⟩⟩
  · simp [h] at hstate
  · simp [h] at hfull
  · simp [h] at hstate
  · simp [h] at hstate

theorem faulted (h : x.state = .faulted) : x.Fits 0 0 := by
  refine ⟨fun _ hstate => ?_, ⟨fun hfull => ?_, fun _ hstate => ?_⟩, fun _ hstate => ?_, fun _ => ⟨rfl, rfl⟩⟩
  · simp [h] at hstate
  · simp [h] at hfull
  · simp [h] at hstate
  · simp [h] at hstate

/-- R127: an opening starts with its offsets at 0. -/
theorem opening {f : OpenFields} (hvalid : f.valid = true) : (x.opening f).Fits 0 0 := by
  obtain ⟨-, hpos, hspan, -, -⟩ := (OpenFields.valid_iff f).1 hvalid
  refine ⟨fun _ _ => ⟨by simp [Window.opening], by simp [Window.opening]⟩,
    ⟨fun hfull => (by cases hfull), fun _ _ => ⟨(Nat.le_refl _), (Nat.le_refl _), Nat.zero_le _, hspan, fun hfull => (by cases hfull)⟩⟩,
    fun _ _ => ⟨hpos, hspan, (Nat.le_refl _), (Nat.le_refl _), ?_⟩, fun hstate => ?_⟩
  · simp [Window.opening]
  · simp [Window.opening] at hstate

/-- R128: a window that is closed while frames are queued drains with its offsets as they are. -/
theorem closing (h : x.Fits t r) (hstate : x.state = .opened ∨ x.state = .full) :
    ({ x with state := .closing } : Window).Fits t r := by
  have hheld : x.state = .opened ∨ x.state = .closing ∨ x.state = .full := hstate.imp_right .inr
  refine ⟨fun hstream _ => h.offsets hstream hheld, ⟨fun hfull => (by cases hfull), fun hkind _ => ?_⟩, fun hkind _ => ?_,
    fun hdrained => ?_⟩
  · obtain ⟨hvisible, hcommit, haccepted, hsize, -⟩ := h.once.2 hkind hheld
    exact ⟨hvisible, hcommit, haccepted, hsize, fun hfull => (by cases hfull)⟩
  · refine h.ring hkind (.inl (hstate.resolve_right fun hfull => ?_))
    have honce := h.once.1 hfull
    rw [show x.kind = .ring from hkind] at honce
    cases honce
  · simp at hdrained

/-- R132: a rearmed window begins again at its first byte. -/
theorem rearmed (h : x.Fits t r) (hfull : x.state = .full) : x.rearmed.Fits t r := by
  obtain ⟨rfl, rfl⟩ := h.drained (.inr (.inl hfull))
  have honce := h.once.1 hfull
  obtain ⟨-, -, -, hsize, -⟩ := h.once.2 honce (.inr (.inr hfull))
  refine ⟨fun _ _ => ⟨by simp [Window.rearmed], by simp [Window.rearmed]⟩,
    ⟨fun hfull => (by cases hfull), fun _ _ => ⟨(Nat.le_refl _), (Nat.le_refl _), Nat.zero_le _, hsize, fun hfull => (by cases hfull)⟩⟩,
    fun hkind _ => ?_, fun hstate => ?_⟩
  · rw [show x.kind = .ring from hkind] at honce
    cases honce
  · simp [Window.rearmed] at hstate

/-- R130: the consumed offset moves up to V. -/
theorem consume (h : x.Fits t r) (hopen : x.state = .opened) {n : Word}
    (hwithin : n.toNat ≤ (x.visible - x.consumed).toNat) : ({ x with consumed := x.consumed + n } : Window).Fits t r := by
  refine ⟨h.offsets, h.once, fun hkind _ => ?_, h.drained⟩
  obtain ⟨hpos, hspan, hvisible, hcommit, haccepted⟩ := h.ring hkind (.inl hopen)
  refine ⟨hpos, hspan, ?_, ?_, ?_⟩
  · bv_omega
  · bv_omega
  · bv_omega

/-- R119, R122, R123: an accepted frame moves A on by its bytes. -/
theorem acceptBytes (h : x.Fits t r) {queued : Nat} {sender : StationId} {f : WireFrame}
    (haccept : frameVote x queued sender f = .accept) :
    (x.acceptBytes f.payload.length).Fits (t + f.payload.length) r := by
  have hroom := roomFor_of_accept haccept
  have hopen := hroom.opened
  have hnotDrained : ¬ (x.state = .closed ∨ x.state = .full ∨ x.state = .faulted) := by simp [hopen]
  cases hkind : x.kind with
  | table =>
    rw [acceptBytes_of_table hkind]
    refine ⟨fun hstream => absurd hkind ((isStream_iff x).1 hstream), h.once, h.ring, fun hstate => absurd hstate hnotDrained⟩
  | once =>
    have hstream : x.isStream = true := (isStream_iff x).2 (by simp [hkind])
    obtain ⟨haccepted, hcommit⟩ := h.offsets hstream (.inl hopen)
    obtain ⟨hvisible, hmark, -, hsize, -⟩ := h.once.2 hkind (.inl hopen)
    have hfits := hroom.once hkind
    have hspan : x.size ≤ 1048576 := hsize
    rw [acceptBytes_of_once hkind]
    refine ⟨fun _ _ => ⟨?_, hcommit⟩, ⟨fun hfull => ?_, fun _ _ => ⟨hvisible, ?_, ?_, hsize, fun hfull => ?_⟩⟩,
      fun hring => ?_, fun hstate => absurd hstate hnotDrained⟩
    · simp only [haccepted, BitVec.ofNat_add, BitVec.add_assoc]
    · rw [show x.state = .full from hfull] at hopen
      cases hopen
    · simp only [BitVec.toNat_add, BitVec.toNat_ofNat]
      omega
    · simp only [BitVec.toNat_add, BitVec.toNat_ofNat]
      omega
    · rw [show x.state = .full from hfull] at hopen
      cases hopen
    · rw [show x.kind = .ring from hring] at hkind
      cases hkind
  | ring =>
    have hstream : x.isStream = true := (isStream_iff x).2 (by simp [hkind])
    obtain ⟨haccepted, hcommit⟩ := h.offsets hstream (.inl hopen)
    obtain ⟨hpos, hsize, hvisible, hmark, -⟩ := h.ring hkind (.inl hopen)
    have hfits := hroom.ring hkind
    have hspan : x.size ≤ 1048576 := hsize
    rw [acceptBytes_of_ring hkind]
    refine ⟨fun _ _ => ⟨?_, hcommit⟩, ⟨fun hfull => ?_, fun honce => ?_⟩,
      fun _ _ => ⟨Nat.mod_lt _ (Nat.zero_lt_of_lt hpos), hsize, hvisible, ?_, ?_⟩, fun hstate => absurd hstate hnotDrained⟩
    · simp only [haccepted, BitVec.ofNat_add, BitVec.add_assoc]
    · rw [show x.state = .full from hfull] at hopen
      cases hopen
    · rw [show x.kind = .once from honce] at hkind
      cases hkind
    · simp only [BitVec.toNat_sub, BitVec.toNat_add, BitVec.toNat_ofNat] at *
      omega
    · simp only [BitVec.toNat_sub, BitVec.toNat_add, BitVec.toNat_ofNat] at *
      omega

/-- R138: a COMMIT moves C up to A, the tentative bytes becoming released. -/
theorem commitFrames (h : x.Fits t r) (n : Nat) (sender : StationId) : (x.commitFrames n sender).Fits 0 (t + r) := by
  rw [commitFrames_eq]
  refine ⟨fun hstream hstate => ?_, ⟨h.once.1, fun hkind hstate => ?_⟩, fun hkind hstate => ?_, fun hstate => ?_⟩
  · have hkind : x.kind ≠ .table := (isStream_iff _).1 hstream
    obtain ⟨haccepted, hcommit⟩ := h.offsets ((isStream_iff x).2 hkind) hstate
    simp only [if_neg hkind]
    refine ⟨by simp, ?_⟩
    rw [haccepted, hcommit, BitVec.ofNat_add, BitVec.add_assoc, BitVec.add_comm (BitVec.ofNat 32 r)]
  · obtain ⟨hvisible, hmark, haccepted, hsize, hfull⟩ := h.once.2 hkind hstate
    simp only [show x.kind = .once from hkind, reduceCtorEq, if_false]
    exact ⟨Nat.le_trans hvisible hmark, (Nat.le_refl _), haccepted, hsize, hfull⟩
  · obtain ⟨hpos, hsize, hvisible, hmark, haccepted⟩ := h.ring hkind hstate
    simp only [show x.kind = .ring from hkind, reduceCtorEq, if_false]
    exact ⟨hpos, hsize, Nat.le_trans hvisible hmark, (Nat.le_refl _), haccepted⟩
  · obtain ⟨rfl, rfl⟩ := h.drained hstate
    exact ⟨rfl, rfl⟩

/-- R139: any other outcome moves A back to C, the tentative bytes being dropped. -/
theorem setBack (h : x.Fits t r) : x.setBack.Fits 0 r := by
  cases hkind : x.kind with
  | table =>
    rw [setBack_of_table hkind]
    exact ⟨fun hstream => absurd hkind ((isStream_iff x).1 hstream), h.once, h.ring, fun hstate => ⟨rfl, (h.drained hstate).2⟩⟩
  | once =>
    rw [setBack_of_once hkind]
    refine ⟨fun hstream hstate => ⟨by simp, (h.offsets hstream hstate).2⟩, ⟨h.once.1, fun hkind hstate => ?_⟩, fun hring => ?_,
      fun hstate => ⟨rfl, (h.drained hstate).2⟩⟩
    · obtain ⟨hvisible, hmark, haccepted, hsize, hfull⟩ := h.once.2 hkind hstate
      exact ⟨hvisible, (Nat.le_refl _), Nat.le_trans hmark haccepted, hsize, hfull⟩
    · rw [show x.kind = .ring from hring] at hkind
      cases hkind
  | ring =>
    rw [setBack_of_ring hkind]
    refine ⟨fun hstream hstate => ⟨by simp, (h.offsets hstream hstate).2⟩, ⟨h.once.1, fun honce => ?_⟩,
      fun hring hstate => ?_, fun hstate => ⟨rfl, (h.drained hstate).2⟩⟩
    · rw [show x.kind = .once from honce] at hkind
      cases hkind
    · obtain ⟨hpos, hsize, hvisible, hmark, haccepted⟩ := h.ring hring hstate
      exact ⟨Nat.mod_lt _ (Nat.zero_lt_of_lt hpos), hsize, hvisible, (Nat.le_refl _), Nat.le_trans hmark haccepted⟩

/-- R117, R140: a window with a frame queued is OPEN or CLOSING. -/
theorem holding (h : x.Fits t r) (hpos : 0 < t + r) : x.state = .opened ∨ x.state = .closing := by
  cases hstate : x.state with
  | opened => exact .inl rfl
  | closing => exact .inr rfl
  | closed =>
    obtain ⟨rfl, rfl⟩ := h.drained (.inl hstate)
    exact absurd hpos (Nat.lt_irrefl 0)
  | full =>
    obtain ⟨rfl, rfl⟩ := h.drained (.inr (.inl hstate))
    exact absurd hpos (Nat.lt_irrefl 0)
  | faulted =>
    obtain ⟨rfl, rfl⟩ := h.drained (.inr (.inr hstate))
    exact absurd hpos (Nat.lt_irrefl 0)

/-- R141: V moves on by the bytes of a frame written. -/
theorem written (h : x.Fits t (n + r)) (hn : 0 < n) (hsmall : n + r ≤ 1024) :
    ({ x with visible := x.visible + BitVec.ofNat 32 n } : Window).Fits t r := by
  have hheld := h.holding (by omega)
  refine ⟨fun hstream hstate => ?_, ⟨h.once.1, fun hkind hstate => ?_⟩, fun hkind hstate => ?_, fun hstate => ?_⟩
  · obtain ⟨haccepted, hcommit⟩ := h.offsets hstream hstate
    refine ⟨haccepted, ?_⟩
    rw [hcommit, BitVec.ofNat_add, BitVec.add_assoc]
  · have hstream : x.isStream = true := (isStream_iff x).2 (by simp [show x.kind = .once from hkind])
    obtain ⟨-, hcommit⟩ := h.offsets hstream hstate
    obtain ⟨hvisible, hmark, haccepted, hsize, -⟩ := h.once.2 hkind hstate
    have hspan : x.size ≤ 1048576 := hsize
    have hlarge : x.visible.toNat ≤ 1048576 := Nat.le_trans hvisible (Nat.le_trans hmark (Nat.le_trans haccepted hspan))
    have hbound : (x.visible + BitVec.ofNat 32 n).toNat ≤ x.commitMark.toNat := by
      rw [hcommit, BitVec.toNat_add, BitVec.toNat_add, BitVec.toNat_ofNat, BitVec.toNat_ofNat]
      omega
    refine ⟨hbound, hmark, haccepted, hsize, fun hfull => ?_⟩
    rw [show x.state = .full from hfull] at hheld
    simp at hheld
  · have hstream : x.isStream = true := (isStream_iff x).2 (by simp [show x.kind = .ring from hkind])
    obtain ⟨hpos, hsize, hvisible, hmark, haccepted⟩ := h.ring hkind hstate
    obtain ⟨-, hcommit⟩ := h.offsets hstream (hstate.imp_right .inl)
    have hspan : x.size ≤ 1048576 := hsize
    refine ⟨hpos, hsize, ?_, hmark, haccepted⟩
    have hlarge : (x.commitMark - x.consumed).toNat ≤ 1048576 := Nat.le_trans hmark (Nat.le_trans haccepted hspan)
    rw [hcommit] at hvisible hlarge ⊢
    simp only [BitVec.toNat_sub, BitVec.toNat_add, BitVec.toNat_ofNat] at *
    omega
  · rcases hheld with hopen | hclosing
    · simp [hopen] at hstate
    · simp [hclosing] at hstate

/-- R117, R143: a ONCE window whose V has reached its size has nothing queued. -/
theorem full (h : x.Fits t r) (hfull : x.becomesFull = true) (hsmall : t + r ≤ 1024) :
    ({ x with state := .full } : Window).Fits t r := by
  obtain ⟨hkind, hopen, hend⟩ := (State.becomesFull_iff x).1 hfull
  have hstream : x.isStream = true := (isStream_iff x).2 (by simp [hkind])
  obtain ⟨haccepted, hcommit⟩ := h.offsets hstream (.inl hopen)
  obtain ⟨hvisible, hmark, hlast, hsize, -⟩ := h.once.2 hkind (.inl hopen)
  have hspan : x.size ≤ 1048576 := hsize
  have hnone : t = 0 ∧ r = 0 := by
    rw [haccepted, BitVec.toNat_add, BitVec.toNat_ofNat] at hmark hlast
    rw [hcommit, BitVec.toNat_add, BitVec.toNat_ofNat] at hmark hlast hvisible
    omega
  refine ⟨fun _ _ => ⟨haccepted, hcommit⟩, ⟨fun _ => hkind, fun _ _ => ⟨hvisible, hmark, hlast, hsize, fun _ => hend⟩⟩,
    fun hring => ?_, fun _ => hnone⟩
  rw [show x.kind = .ring from hring] at hkind
  cases hkind

end Fits

end Window

end Sys2Proof.Machine

namespace Sys2Proof.Machine

open State

/-! ## The bytes of a window's frames in the landing queue -/

/-- The bytes of a window's frames in a queue that carry the mark given. -/
def queueBytes (queue : List QueuedFrame) (w : WindowNo) (released : Bool) : Nat :=
  ((queue.filter fun f => (f.window == w) && (f.released == released)).map fun f => f.payload.length).sum

theorem bytesOf_eq (l : Landing) (w : WindowNo) (b : Bool) : l.bytesOf w b = queueBytes l.queue w b := rfl

theorem queueBytes_nil (w : WindowNo) (b : Bool) : queueBytes [] w b = 0 := rfl

theorem queueBytes_cons (f : QueuedFrame) (queue : List QueuedFrame) (w : WindowNo) (b : Bool) :
    queueBytes (f :: queue) w b =
      (if f.window = w ∧ f.released = b then f.payload.length else 0) + queueBytes queue w b := by
  unfold queueBytes
  by_cases h : f.window = w ∧ f.released = b
  · rw [if_pos h, List.filter_cons_of_pos (by simpa using h), List.map_cons, List.sum_cons]
  · rw [if_neg h, List.filter_cons_of_neg (by simpa using h), Nat.zero_add]

theorem queueBytes_append (queue rest : List QueuedFrame) (w : WindowNo) (b : Bool) :
    queueBytes (queue ++ rest) w b = queueBytes queue w b + queueBytes rest w b := by
  simp [queueBytes]

theorem queueBytes_of_absent {queue : List QueuedFrame} {w : WindowNo} (h : ∀ f ∈ queue, f.window ≠ w) (b : Bool) :
    queueBytes queue w b = 0 := by
  induction queue with
  | nil => rfl
  | cons f queue ih =>
    obtain ⟨hf, hrest⟩ := List.forall_mem_cons.1 h
    rw [queueBytes_cons, if_neg fun hboth => hf hboth.1, ih hrest]

theorem absent_of_queueBytes {queue : List QueuedFrame} {w : WindowNo} (hpayload : ∀ f ∈ queue, 1 ≤ f.payload.length)
    (h : ∀ b, queueBytes queue w b = 0) : ∀ f ∈ queue, f.window ≠ w := by
  induction queue with
  | nil => exact fun f hf => by cases hf
  | cons f queue ih =>
    obtain ⟨hf, hrest⟩ := List.forall_mem_cons.1 hpayload
    have hsplit (b : Bool) := (queueBytes_cons f queue w b).symm.trans (h b)
    refine List.forall_mem_cons.2 ⟨fun heq => ?_, ih hrest fun b => (Nat.add_eq_zero_iff.1 (hsplit b)).2⟩
    have hzero := (Nat.add_eq_zero_iff.1 (hsplit f.released)).1
    rw [if_pos ⟨heq, rfl⟩] at hzero
    omega

/-- R136: a queue of sixteen frames of at most 64 bytes holds at most 1024 bytes. -/
theorem queueBytes_le {queue : List QueuedFrame} (h : ∀ f ∈ queue, f.payload.length ≤ 64) (w : WindowNo) :
    queueBytes queue w false + queueBytes queue w true ≤ 64 * queue.length := by
  induction queue with
  | nil => simp [queueBytes_nil]
  | cons f queue ih =>
    obtain ⟨hf, hrest⟩ := List.forall_mem_cons.1 h
    have hle := ih hrest
    rw [queueBytes_cons, queueBytes_cons, List.length_cons]
    cases hreleased : f.released with
    | false =>
      simp only [reduceCtorEq, and_true, and_false, if_false]
      split <;> omega
    | true =>
      simp only [Bool.true_eq_false, and_true, and_false, if_false]
      split <;> omega

/-- R138: a COMMIT releases every tentative byte. -/
theorem queueBytes_released (queue : List QueuedFrame) (w : WindowNo) :
    queueBytes (queue.map fun f => { f with released := true }) w false = 0 ∧
      queueBytes (queue.map fun f => { f with released := true }) w true =
        queueBytes queue w false + queueBytes queue w true := by
  induction queue with
  | nil => exact ⟨rfl, rfl⟩
  | cons f queue ih =>
    obtain ⟨hfalse, htrue⟩ := ih
    rw [List.map_cons, queueBytes_cons, queueBytes_cons, queueBytes_cons, queueBytes_cons, hfalse, htrue]
    refine ⟨by simp, ?_⟩
    cases f.released with
    | false =>
      simp only [reduceCtorEq, and_true, and_false, if_false]
      omega
    | true =>
      simp only [Bool.true_eq_false, and_true, and_false, if_false]
      omega

/-- R139: any other outcome drops every tentative byte and keeps the released ones. -/
theorem queueBytes_dropped (queue : List QueuedFrame) (w : WindowNo) :
    queueBytes (queue.filter fun f => f.released) w false = 0 ∧
      queueBytes (queue.filter fun f => f.released) w true = queueBytes queue w true := by
  induction queue with
  | nil => exact ⟨rfl, rfl⟩
  | cons f queue ih =>
    obtain ⟨hfalse, htrue⟩ := ih
    cases hreleased : f.released with
    | false =>
      rw [List.filter_cons_of_neg (by simp [hreleased]), queueBytes_cons, hfalse, htrue, hreleased]
      simp
    | true =>
      rw [List.filter_cons_of_pos (by simp [hreleased]), queueBytes_cons, queueBytes_cons, queueBytes_cons, hfalse, htrue,
        hreleased]
      simp

theorem queueBytes_tentative_eq_zero {queue : List QueuedFrame} {w : WindowNo}
    (h : ∀ f ∈ queue, f.released = false → f.window ≠ w) : queueBytes queue w false = 0 := by
  induction queue with
  | nil => rfl
  | cons f queue ih =>
    obtain ⟨hf, hrest⟩ := List.forall_mem_cons.1 h
    rw [queueBytes_cons, if_neg fun hboth => hf hboth.2 hboth.1, ih hrest]

/-- R146: a write fault removes the bytes of its window and no other's. -/
theorem queueBytes_faulted (queue : List QueuedFrame) (w v : WindowNo) (b : Bool) :
    queueBytes (queue.filter fun f => !(f.window == w)) v b = if w = v then 0 else queueBytes queue v b := by
  split
  next heq =>
    refine queueBytes_of_absent (fun f hf => ?_) b
    rw [← heq]
    simpa using (List.mem_filter.1 hf).2
  next hne =>
    induction queue with
    | nil => rfl
    | cons f queue ih =>
      by_cases hf : f.window = w
      · rw [List.filter_cons_of_neg (by simp [hf]), ih, queueBytes_cons,
          if_neg fun hboth => hne (hf.symm.trans hboth.1), Nat.zero_add]
      · rw [List.filter_cons_of_pos (by simp [hf]), queueBytes_cons, queueBytes_cons, ih]

/-! ## Landing queue, vote and windows (R117 to R119, R136, R137) -/

theorem QueuedFrame.Inside.of_samePlace {f : QueuedFrame} {x y : Window} (h : f.Inside x) (hsame : x.SamePlace y) :
    f.Inside y := by
  obtain ⟨hkind, -, hsize⟩ := hsame
  unfold QueuedFrame.Inside at h ⊢
  rw [hkind, hsize]
  exact h

theorem Window.samePlace_setBack (x : Window) : x.SamePlace x.setBack := by
  unfold Window.setBack
  split <;> exact ⟨rfl, rfl, rfl⟩

theorem Window.samePlace_acceptBytes (x : Window) (n : Nat) : x.SamePlace (x.acceptBytes n) := by
  unfold Window.acceptBytes
  split <;> exact ⟨rfl, rfl, rfl⟩

/-- R119, R120, R122: an accepted frame has its place inside the region. -/
theorem queuedFrameOf_inside {x : Window} {queued : Nat} {f : WireFrame} (hroom : RoomFor x queued f)
    (hring : x.RingSound) (v : TenureVote) (sender : StationId) : (queuedFrameOf x v sender f).Inside x := by
  unfold QueuedFrame.Inside
  cases hkind : x.kind with
  | once =>
    show (queuedFrameOf x v sender f).target.toNat + f.payload.length ≤ x.size
    rw [queuedFrameOf_target_of_none x v sender (hroom.stream (by simp [hkind]))]
    exact hroom.once hkind
  | table =>
    obtain ⟨o, ho, hfits⟩ := hroom.table hkind
    show (queuedFrameOf x v sender f).target.toNat + f.payload.length ≤ x.size
    rw [queuedFrameOf_target_of_some x v sender ho]
    exact hfits
  | ring =>
    obtain ⟨hpos, -⟩ := hring hkind (.inl hroom.opened)
    have hlength := hroom.ring hkind
    refine ⟨?_, Nat.le_trans (Nat.le_add_left _ _) hlength⟩
    show (if x.kind = .ring then x.ringPos else 0) < x.size
    rw [if_pos hkind]
    exact hpos

namespace State

/-- The landing unit but its writer: the queue, the vote its tentative frames belong to, and the windows. -/
structure QueueFits (s : State) : Prop where
  length : s.landing.queue.length ≤ 16
  payload : ∀ f ∈ s.landing.queue, 1 ≤ f.payload.length ∧ f.payload.length ≤ 64
  voted : ∀ f ∈ s.landing.queue, f.released = false →
    ∃ v, s.landing.vote = some v ∧ f.window = v.window ∧ f.sender = v.sender ∧ f.tenure = v.tenure
  ordered : s.landing.queue.Pairwise fun f g => f.released = false → g.released = false
  inside : ∀ f ∈ s.landing.queue, f.Inside (s.win f.window)
  window : ∀ w, (s.win w).Fits (queueBytes s.landing.queue w false) (queueBytes s.landing.queue w true)

variable {s t : State}

/-- R140: no frame of a window is queued exactly when no byte of it is. -/
theorem hasQueued_eq_false_iff (h : ∀ f ∈ s.landing.queue, 1 ≤ f.payload.length) (w : WindowNo) :
    s.hasQueued w = false ↔
      queueBytes s.landing.queue w false = 0 ∧ queueBytes s.landing.queue w true = 0 := by
  have habsent : s.hasQueued w = false ↔ ∀ f ∈ s.landing.queue, f.window ≠ w := by
    rw [← Bool.not_eq_true, hasQueued_iff]
    simp only [not_exists, not_and, ne_eq]
  rw [habsent]
  constructor
  · exact fun hnone => ⟨queueBytes_of_absent hnone _, queueBytes_of_absent hnone _⟩
  · rintro ⟨hfalse, htrue⟩
    exact absent_of_queueBytes h fun b => by cases b <;> assumption

namespace QueueFits

theorem bytes_le (h : s.QueueFits) (w : WindowNo) :
    queueBytes s.landing.queue w false + queueBytes s.landing.queue w true ≤ 1024 :=
  Nat.le_trans (queueBytes_le (fun f hf => (h.payload f hf).2) w) (Nat.mul_le_mul_left 64 h.length)

theorem absent_iff (h : s.QueueFits) (w : WindowNo) :
    s.hasQueued w = false ↔
      queueBytes s.landing.queue w false = 0 ∧ queueBytes s.landing.queue w true = 0 :=
  hasQueued_eq_false_iff (fun f hf => (h.payload f hf).1) w

/-- A state that differs in other blocks, and in what a window reports with its note. -/
theorem of_core (h : s.QueueFits) (hqueue : t.landing.queue = s.landing.queue) (hvote : t.landing.vote = s.landing.vote)
    (hcore : ∀ w, (t.win w).core = (s.win w).core) : t.QueueFits := by
  refine ⟨hqueue ▸ h.length, hqueue ▸ h.payload, ?_, hqueue ▸ h.ordered, ?_, fun w => ?_⟩
  · rw [hqueue, hvote]
    exact h.voted
  · rw [hqueue]
    exact fun f hf => (h.inside f hf).of_samePlace (Window.samePlace_of_core (hcore f.window))
  · rw [hqueue]
    exact (h.window w).of_core (hcore w)

/-- A window rewritten, its place kept as long as it has frames queued. -/
theorem setWin (h : s.QueueFits) {w : WindowNo} {x : Window}
    (hx : x.Fits (queueBytes s.landing.queue w false) (queueBytes s.landing.queue w true))
    (hplace : s.hasQueued w = true → (s.win w).SamePlace x) : (s.setWin w x).QueueFits := by
  refine ⟨h.length, h.payload, h.voted, h.ordered, fun f hf => ?_, fun v => ?_⟩
  · rw [win_setWin]
    split
    next heq =>
      have hinside := h.inside f hf
      rw [← heq] at hinside
      exact hinside.of_samePlace (hplace ((s.hasQueued_iff w).2 ⟨f, hf, heq.symm⟩))
    next => exact h.inside f hf
  · rw [win_setWin]
    split
    next heq => exact heq ▸ hx
    next => exact h.window v

/-- R145: the drain test. -/
theorem drainTest (h : s.QueueFits) (w : WindowNo) : (s.drainTest w).QueueFits := by
  by_cases hdrained : (s.win w).state = .closing ∧ s.hasQueued w = false
  · rw [drainTest_of_drained hdrained.1 hdrained.2]
    obtain ⟨hfalse, htrue⟩ := (h.absent_iff w).1 hdrained.2
    refine h.setWin ?_ fun hqueued => ?_
    · rw [hfalse, htrue]
      exact .closed rfl
    · rw [hdrained.2] at hqueued
      cases hqueued
  · rw [drainTest_of_other hdrained]
    exact h

/-- R143: the note test. -/
theorem noteTest (h : s.QueueFits) (f : QueuedFrame) : (s.noteTest f).QueueFits := by
  rw [noteTest_eq]
  refine h.setWin ?_ fun _ => ⟨rfl, rfl, rfl⟩
  cases hfull : (s.win f.window).becomesFull with
  | true =>
    refine Window.Fits.of_core ((h.window f.window).full hfull (h.bytes_le f.window)) ?_
    simp [Window.core, State.notedWindow, hfull]
  | false =>
    refine (h.window f.window).of_core ?_
    simp [Window.core, State.notedWindow, hfull]

/-- R141: the frame at the head has been written. -/
theorem frameWritten (h : s.QueueFits) {f : QueuedFrame} {rest : List QueuedFrame} (hqueue : s.landing.queue = f :: rest)
    (hreleased : f.released = true) : (s.frameWritten f).QueueFits := by
  have hrest := frameWritten_queue hqueue
  have hmem {g : QueuedFrame} (hg : g ∈ rest) : g ∈ s.landing.queue := hqueue ▸ List.mem_cons_of_mem f hg
  have hlength := h.length
  have hordered := h.ordered
  obtain ⟨hpos, -⟩ := h.payload f (hqueue ▸ List.mem_cons_self)
  rw [hqueue] at hlength hordered
  refine ⟨?_, ?_, ?_, ?_, ?_, fun w => ?_⟩
  · rw [hrest]
    exact Nat.le_trans (Nat.le_succ _) hlength
  · rw [hrest]
    exact fun g hg => h.payload g (hmem hg)
  · rw [hrest]
    exact fun g hg => h.voted g (hmem hg)
  · rw [hrest]
    exact (List.pairwise_cons.1 hordered).2
  · rw [hrest]
    intro g hg
    have hinside := h.inside g (hmem hg)
    rw [win_frameWritten]
    split
    next heq =>
      rw [← heq] at hinside
      exact hinside
    next => exact hinside
  · have hfits := h.window w
    have hle := h.bytes_le w
    rw [hqueue, queueBytes_cons, queueBytes_cons, hreleased] at hfits hle
    simp only [Bool.true_eq_false, and_false, and_true, if_false, Nat.zero_add] at hfits hle
    rw [hrest, win_frameWritten]
    by_cases heq : f.window = w
    · subst heq
      rw [if_pos rfl] at hfits hle ⊢
      exact hfits.written hpos (by omega)
    · rw [if_neg heq] at hfits ⊢
      rw [Nat.zero_add] at hfits
      exact hfits

/-- R146, R147: the window of the frame at the head faults, and its frames leave the queue. -/
theorem faultWindow (h : s.QueueFits) {w : WindowNo} {x : Window} (hx : x.state = .faulted)
    (hwindows : ∀ v, t.win v = if w = v then x else s.win v)
    (hqueue : t.landing.queue = s.landing.queue.filter fun f => !(f.window == w))
    (hvote : t.landing.vote = s.voteAfterFault w) : t.QueueFits := by
  have hmem {g : QueuedFrame} (hg : g ∈ t.landing.queue) : g ∈ s.landing.queue ∧ w ≠ g.window := by
    rw [hqueue, List.mem_filter] at hg
    refine ⟨hg.1, fun heq => ?_⟩
    simp [heq] at hg
  refine ⟨?_, fun g hg => h.payload g (hmem hg).1, fun g hg hno => ?_, ?_, fun g hg => ?_, fun v => ?_⟩
  · rw [hqueue]
    exact Nat.le_trans (List.length_filter_le _ _) h.length
  · obtain ⟨v, hv, hwindow, hsender, htenure⟩ := h.voted g (hmem hg).1 hno
    rw [hvote, State.voteAfterFault, hv, Option.map_some]
    refine ⟨_, rfl, ?_⟩
    split <;> exact ⟨hwindow, hsender, htenure⟩
  · rw [hqueue]
    exact h.ordered.filter _
  · rw [hwindows, if_neg (hmem hg).2]
    exact h.inside g (hmem hg).1
  · rw [hqueue, queueBytes_faulted, queueBytes_faulted, hwindows]
    by_cases heq : w = v
    · simp only [if_pos heq]
      exact .faulted hx
    · simp only [if_neg heq]
      exact h.window v

/-- R136: the tentative frames are those of the vote's window. -/
theorem tentative_eq_zero (h : s.QueueFits) {v : TenureVote} (hv : s.landing.vote = some v) {w : WindowNo}
    (hw : v.window ≠ w) : queueBytes s.landing.queue w false = 0 := by
  refine queueBytes_tentative_eq_zero fun f hf hno => ?_
  obtain ⟨v', hv', hwindow, -⟩ := h.voted f hf hno
  rw [hv] at hv'
  cases hv'
  exact hwindow ▸ hw

theorem released_of_no_vote (h : s.QueueFits) (hv : s.landing.vote = none) : ∀ f ∈ s.landing.queue, f.released = true := by
  refine fun f hf => Bool.not_eq_false _ ▸ fun hno => ?_
  obtain ⟨v, hv', -⟩ := h.voted f hf hno
  rw [hv] at hv'
  cases hv'

/-- R138: a COMMIT, the vote's window taking its tentative bytes. -/
theorem commit (h : s.QueueFits) {v : TenureVote} (hv : s.landing.vote = some v) {n : Nat} {sender : StationId}
    (hwindows : ∀ w, t.win w = if v.window = w then (s.win v.window).commitFrames n sender else s.win w)
    (hqueue : t.landing.queue = s.landing.queue.map fun f => { f with released := true }) : t.QueueFits := by
  have hreleased (f) (hf : f ∈ t.landing.queue) : f.released = true := by
    rw [hqueue] at hf
    obtain ⟨g, -, rfl⟩ := List.mem_map.1 hf
    rfl
  refine ⟨?_, fun f hf => ?_, fun f hf hno => ?_, ?_, fun f hf => ?_, fun w => ?_⟩
  · rw [hqueue, List.length_map]
    exact h.length
  · rw [hqueue] at hf
    obtain ⟨g, hg, rfl⟩ := List.mem_map.1 hf
    exact h.payload g hg
  · rw [hreleased f hf] at hno
    cases hno
  · exact List.pairwise_of_forall_mem_list fun f hf _ _ hno => by rw [hreleased f hf] at hno; cases hno
  · rw [hqueue] at hf
    obtain ⟨g, hg, rfl⟩ := List.mem_map.1 hf
    have hinside := h.inside g hg
    rw [hwindows]
    split
    next heq =>
      replace heq : v.window = g.window := heq
      rw [← heq] at hinside
      exact hinside
    next => exact hinside
  · obtain ⟨hnone, hall⟩ := queueBytes_released s.landing.queue w
    rw [hqueue, hnone, hall, hwindows]
    by_cases heq : v.window = w
    · subst heq
      rw [if_pos rfl]
      exact (h.window v.window).commitFrames n sender
    · rw [if_neg heq, h.tentative_eq_zero hv heq, Nat.zero_add]
      exact h.tentative_eq_zero hv heq ▸ h.window w

/-- R139: any other outcome, the vote's window moving A back to C. -/
theorem drop (h : s.QueueFits) {v : TenureVote} (hv : s.landing.vote = some v)
    (hwindows : ∀ w, t.win w = if v.window = w then (s.win v.window).setBack else s.win w)
    (hqueue : t.landing.queue = s.landing.queue.filter fun f => f.released) : t.QueueFits := by
  have hmem {f : QueuedFrame} (hf : f ∈ t.landing.queue) : f ∈ s.landing.queue ∧ f.released = true := by
    rw [hqueue] at hf
    exact List.mem_filter.1 hf
  refine ⟨?_, fun f hf => h.payload f (hmem hf).1, fun f hf hno => ?_, ?_, fun f hf => ?_, fun w => ?_⟩
  · rw [hqueue]
    exact Nat.le_trans (List.length_filter_le _ _) h.length
  · rw [(hmem hf).2] at hno
    cases hno
  · rw [hqueue]
    exact h.ordered.filter _
  · have hinside := h.inside f (hmem hf).1
    rw [hwindows]
    split
    next heq =>
      rw [← heq] at hinside
      exact hinside.of_samePlace (Window.samePlace_setBack _)
    next => exact hinside
  · obtain ⟨hnone, hkept⟩ := queueBytes_dropped s.landing.queue w
    rw [hqueue, hnone, hkept, hwindows]
    by_cases heq : v.window = w
    · subst heq
      rw [if_pos rfl]
      exact (h.window v.window).setBack
    · rw [if_neg heq]
      exact h.tentative_eq_zero hv heq ▸ h.window w

/-- R119, R120, R122, R123: an accepted frame is queued as tentative. -/
theorem accept (h : s.QueueFits) {v v' : TenureVote} {sender : StationId} {f : WireFrame} (hv : s.landing.vote = some v)
    (hsender : v.sender = sender) (hpayload : 1 ≤ f.payload.length ∧ f.payload.length ≤ 64)
    (haccept : Machine.frameVote (s.win v.window) s.landing.queue.length sender f = .accept)
    (hwindows : ∀ w, t.win w =
      if v.window = w then (s.win v.window).acceptBytes f.payload.length else s.win w)
    (hqueue : t.landing.queue = s.landing.queue ++ [queuedFrameOf (s.win v.window) v sender f])
    (hvote : t.landing.vote = some v')
    (hsame : v'.window = v.window ∧ v'.sender = v.sender ∧ v'.tenure = v.tenure) : t.QueueFits := by
  have hroom := roomFor_of_accept haccept
  have hmem {g : QueuedFrame} (hg : g ∈ t.landing.queue) :
      g ∈ s.landing.queue ∨ g = queuedFrameOf (s.win v.window) v sender f := by
    rw [hqueue] at hg
    simpa using hg
  have hplace (w : WindowNo) : (s.win w).SamePlace (t.win w) := by
    rw [hwindows]
    split
    next heq => exact heq ▸ Window.samePlace_acceptBytes _ _
    next => exact .refl _
  obtain ⟨hwindow', hsender', htenure'⟩ := hsame
  refine ⟨?_, fun g hg => ?_, fun g hg hno => ⟨v', hvote, ?_⟩, ?_, fun g hg => ?_, fun w => ?_⟩
  · rw [hqueue, List.length_append]
    exact hroom.queue
  · rcases hmem hg with hg | rfl
    · exact h.payload g hg
    · exact hpayload
  · rw [hwindow', hsender', htenure']
    rcases hmem hg with hg | rfl
    · obtain ⟨u, hu, hmatches⟩ := h.voted g hg hno
      rw [hv] at hu
      cases hu
      exact hmatches
    · exact ⟨rfl, hsender.symm, rfl⟩
  · rw [hqueue, List.pairwise_append]
    exact ⟨h.ordered, List.pairwise_singleton _ _, fun g _ k hk _ => List.mem_singleton.1 hk ▸ rfl⟩
  · rcases hmem hg with hg | rfl
    · exact (h.inside g hg).of_samePlace (hplace g.window)
    · exact (queuedFrameOf_inside hroom (h.window v.window).ring v sender).of_samePlace (hplace v.window)
  · rw [hqueue, queueBytes_append, queueBytes_append, queueBytes_cons, queueBytes_cons, hwindows]
    by_cases heq : v.window = w
    · subst heq
      rw [if_pos rfl, if_pos ⟨rfl, rfl⟩, if_neg fun hboth => by cases hboth.2]
      exact (h.window v.window).acceptBytes haccept
    · rw [if_neg heq, if_neg fun hboth => heq hboth.1, if_neg fun hboth => heq hboth.1]
      exact h.window w

end QueueFits

end State

end Sys2Proof.Machine

namespace Sys2Proof.Machine

open State

/-! ## The landing writer's request (R140, R142, R150, R153) -/

namespace MemPort

/-- The writes the port holds: the one that waits, and the one in flight unless its completion has been `answered` and is
being dealt with. -/
def Writes (p : MemPort) (answered : Bool) (w : WriteRequest) : Prop :=
  p.write = some w ∨ (answered = false ∧ p.inFlight = some (.write w) ∧ p.orphan = false)

/-- A write does not stand twice with the port. -/
def WriteOnce (p : MemPort) : Prop :=
  ¬ (p.write.isSome = true ∧ p.orphan = false ∧ ∃ w, p.inFlight = some (.write w))

variable {p q : MemPort} {answered : Bool}

theorem holdsWrite_iff (p : MemPort) (w : WriteRequest) : p.HoldsWrite w ↔ p.Writes false w :=
  or_congr_right (iff_and_self.2 fun _ => rfl)

/-- R153: after the arbiter's choice no write waits, and the one that waited is in flight. -/
theorem writes_finish (p : MemPort) (w : WriteRequest) : p.finish.Writes false w ↔ p.write = some w := by
  rcases serve_cases { p with inFlight := none, orphan := false } with ⟨v, hv, h⟩ | ⟨c, r, hnone, -, h⟩ | ⟨hnone, -, h⟩
  · rw [MemPort.finish, h]
    replace hv : p.write = some v := hv
    simp [Writes, hv]
  · rw [MemPort.finish, h]
    replace hnone : p.write = none := hnone
    simp [Writes, hnone]
  · rw [MemPort.finish, h]
    replace hnone : p.write = none := hnone
    simp [Writes, hnone]

theorem finish_writeOnce (p : MemPort) : p.finish.WriteOnce := by
  rcases serve_cases { p with inFlight := none, orphan := false } with ⟨v, -, h⟩ | ⟨c, r, hnone, -, h⟩ | ⟨hnone, -, h⟩
  · rw [MemPort.finish, h]
    simp [WriteOnce]
  · rw [MemPort.finish, h]
    simp [WriteOnce]
  · rw [MemPort.finish, h]
    simp [WriteOnce]

/-- R140, R150: the writer's request is the only one the port holds of it. -/
theorem writes_requestWrite (h : p.Sound) (hbusy : answered = true → p.inFlight.isSome = true)
    (hnone : ∀ w, ¬ p.Writes answered w) (v w : WriteRequest) : (p.requestWrite v).Writes answered w ↔ v = w := by
  cases hflight : p.inFlight with
  | none =>
    obtain ⟨hwrite, -⟩ := h.1 hflight
    have hanswered : answered = false := by
      cases answered with
      | false => rfl
      | true =>
        have hsome := hbusy rfl
        rw [hflight] at hsome
        cases hsome
    rw [requestWrite_of_idle hflight v hwrite]
    simp [Writes, hanswered, hwrite, h.orphan_of_idle hflight]
  | some x =>
    rw [requestWrite_of_busy (by rw [hflight]; rfl)]
    constructor
    · rintro (hwaits | hflies)
      · exact Option.some.inj hwaits
      · exact absurd (.inr hflies) (hnone w)
    · rintro rfl
      exact .inl rfl

theorem requestWrite_writeOnce (h : p.Sound) (hnone : ∀ w, ¬ p.Writes false w) (v : WriteRequest) :
    (p.requestWrite v).WriteOnce := by
  cases hflight : p.inFlight with
  | none =>
    obtain ⟨hwrite, -⟩ := h.1 hflight
    rw [requestWrite_of_idle hflight v hwrite]
    simp [WriteOnce, hwrite]
  | some x =>
    rw [requestWrite_of_busy (by rw [hflight]; rfl)]
    rintro ⟨-, horphan, w, hw⟩
    exact hnone w (.inr ⟨rfl, hw, horphan⟩)

theorem requestWrite_busy (hbusy : p.inFlight.isSome = true) (v : WriteRequest) :
    (p.requestWrite v).inFlight.isSome = true := by
  rw [requestWrite_of_busy hbusy]
  exact hbusy

/-- A port that differs in the channels' reads alone: those that wait, and one that an idle port puts in flight. -/
structure SameWrites (p q : MemPort) : Prop where
  write : q.write = p.write
  orphan : q.orphan = p.orphan
  inFlight : q.inFlight = p.inFlight ∨ (p.inFlight = none ∧ ∃ c r, q.inFlight = some (.read c r))

theorem SameWrites.refl (p : MemPort) : p.SameWrites p := ⟨rfl, rfl, .inl rfl⟩

theorem SameWrites.trans {u : MemPort} (h : p.SameWrites q) (h' : q.SameWrites u) : p.SameWrites u := by
  refine ⟨h'.write.trans h.write, h'.orphan.trans h.orphan, ?_⟩
  rcases h'.inFlight with hsame' | ⟨hidle, c, r, hread⟩
  · rcases h.inFlight with hsame | ⟨hidle, c, r, hread⟩
    · exact .inl (hsame'.trans hsame)
    · exact .inr ⟨hidle, c, r, hsame'.trans hread⟩
  · rcases h.inFlight with hsame | ⟨-, c', r', hread'⟩
    · exact .inr ⟨hsame.symm.trans hidle, c, r, hread⟩
    · rw [hread'] at hidle
      cases hidle

theorem SameWrites.writes_iff (h : p.SameWrites q) (answered : Bool) (w : WriteRequest) :
    q.Writes answered w ↔ p.Writes answered w := by
  unfold Writes
  rw [h.write, h.orphan]
  rcases h.inFlight with hsame | ⟨hidle, c, r, hread⟩
  · rw [hsame]
  · rw [hidle, hread]
    simp

theorem SameWrites.writeOnce (h : p.SameWrites q) (honce : p.WriteOnce) : q.WriteOnce := by
  rintro ⟨hwaits, horphan, w, hw⟩
  rw [h.write] at hwaits
  rw [h.orphan] at horphan
  rcases h.inFlight with hsame | ⟨-, c, r, hread⟩
  · exact honce ⟨hwaits, horphan, w, hsame ▸ hw⟩
  · rw [hread] at hw
    cases hw

theorem SameWrites.busy (h : p.SameWrites q) (hbusy : p.inFlight.isSome = true) : q.inFlight.isSome = true := by
  rcases h.inFlight with hsame | ⟨-, c, r, hread⟩
  · rw [hsame]
    exact hbusy
  · rw [hread]
    rfl

/-- What leaves the writer's request at a sound port as it is. -/
def KeepsWrites (p q : MemPort) : Prop := p.Sound → q.Sound ∧ p.SameWrites q

theorem KeepsWrites.refl (p : MemPort) : p.KeepsWrites p := fun h => ⟨h, .refl p⟩

theorem KeepsWrites.trans {u : MemPort} (h : p.KeepsWrites q) (h' : q.KeepsWrites u) : p.KeepsWrites u := by
  intro hp
  obtain ⟨hq, hsame⟩ := h hp
  obtain ⟨hu, hsame'⟩ := h' hq
  exact ⟨hu, hsame.trans hsame'⟩

/-- R150: a channel's request leaves the writer's alone. -/
theorem requestRead_keepsWrites (p : MemPort) (c : ChannelNo) (r : ReadRequest) : p.KeepsWrites (p.requestRead c r) := by
  refine fun h => ⟨requestRead_sound h c r, ?_⟩
  cases hflight : p.inFlight with
  | none =>
    obtain ⟨hwrite, hreads⟩ := h.1 hflight
    rw [requestRead_of_idle hflight hwrite hreads]
    exact ⟨rfl, rfl, .inr ⟨hflight, c, r, rfl⟩⟩
  | some x =>
    rw [requestRead_of_busy (by rw [hflight]; rfl)]
    exact ⟨rfl, rfl, .inl rfl⟩

end MemPort

/-! ## The writer and its part in progress (R140, R142) -/

theorem splitAt_of_samePlace {x y : Window} (h : x.SamePlace y) (f : QueuedFrame) : splitAt y f = splitAt x f := by
  obtain ⟨hkind, -, hsize⟩ := h
  unfold splitAt
  rw [hkind, hsize]

theorem firstPart_of_samePlace {x y : Window} (h : x.SamePlace y) (f : QueuedFrame) : firstPart y f = firstPart x f := by
  have hsplit := splitAt_of_samePlace h f
  obtain ⟨hkind, hbase, -⟩ := h
  unfold firstPart
  rw [hsplit, hkind, hbase]

theorem secondPart_of_samePlace {x y : Window} (h : x.SamePlace y) (f : QueuedFrame) :
    secondPart y f = secondPart x f := by
  have hsplit := splitAt_of_samePlace h f
  obtain ⟨-, hbase, -⟩ := h
  unfold secondPart
  rw [hsplit, hbase]

namespace State

variable {s t : State} {answered : Bool}

/-- The part of a frame that the writer is writing. -/
def partInProgress (s : State) (f : QueuedFrame) : WriteRequest :=
  if s.landing.writer = .second then secondPart (s.win f.window) f else firstPart (s.win f.window) f

/-- The writer holds the part in progress of the released frame at the head with the port, and nothing while it is idle. -/
structure WriterRuns (s : State) (answered : Bool) : Prop where
  port : s.port.Sound
  busy : answered = true → s.port.inFlight.isSome = true
  once : answered = false → s.port.WriteOnce
  idle : s.landing.writer = .idle → ∀ w, ¬ s.port.Writes answered w
  working : s.landing.writer ≠ .idle → ∃ f rest, s.landing.queue = f :: rest ∧ f.released = true ∧
    (s.landing.writer = .second → (splitAt (s.win f.window) f).isSome = true) ∧
    ∀ w, s.port.Writes answered w ↔ s.partInProgress f = w

/-- R140: no released frame stands at the head of an idle writer. -/
def WriterQuiet (s : State) : Prop :=
  ∀ f rest, s.landing.queue = f :: rest → s.landing.writer ≠ .idle ∨ f.released = false

theorem WriterQuiet.of_eq (h : s.WriterQuiet) (hqueue : t.landing.queue = s.landing.queue)
    (hwriter : t.landing.writer = s.landing.writer) : t.WriterQuiet := fun f rest hcons => by
  rw [hwriter]
  exact h f rest (hqueue.symm.trans hcons)

theorem WriterQuiet.finishAccess (h : s.WriterQuiet) : s.finishAccess.WriterQuiet := h.of_eq rfl rfl

theorem writerSound_of_nil (hqueue : s.landing.queue = []) :
    s.WriterSound ↔ s.landing.writer = .idle ∧ ∀ w, ¬ s.port.HoldsWrite w := by
  rw [State.WriterSound, hqueue]

theorem writerSound_of_tentative {f : QueuedFrame} {rest : List QueuedFrame} (hqueue : s.landing.queue = f :: rest)
    (hf : f.released = false) : s.WriterSound ↔ s.landing.writer = .idle ∧ ∀ w, ¬ s.port.HoldsWrite w := by
  rw [State.WriterSound, hqueue]
  exact iff_of_eq (if_neg (by simp [hf]))

theorem writerSound_of_released {f : QueuedFrame} {rest : List QueuedFrame} (hqueue : s.landing.queue = f :: rest)
    (hf : f.released = true) :
    s.WriterSound ↔
      (s.landing.writer = .first ∧ ∀ w, s.port.HoldsWrite w → w = firstPart (s.win f.window) f) ∨
        (s.landing.writer = .second ∧ (splitAt (s.win f.window) f).isSome = true ∧
          ∀ w, s.port.HoldsWrite w → w = secondPart (s.win f.window) f) := by
  rw [State.WriterSound, hqueue]
  exact iff_of_eq (if_pos hf)

theorem partInProgress_of_second {f : QueuedFrame} (h : s.landing.writer = .second) :
    s.partInProgress f = secondPart (s.win f.window) f := if_pos h

theorem partInProgress_of_first {f : QueuedFrame} (h : s.landing.writer ≠ .second) :
    s.partInProgress f = firstPart (s.win f.window) f := if_neg h

/-- With some write held, and no other than the one given, exactly that one is held. -/
theorem writes_iff_eq {p : MemPort} {v : WriteRequest} (hsome : ∃ w, p.HoldsWrite w)
    (honly : ∀ w, p.HoldsWrite w → w = v) (w : WriteRequest) : p.Writes false w ↔ v = w := by
  rw [← p.holdsWrite_iff]
  constructor
  · exact fun h => (honly w h).symm
  · rintro rfl
    obtain ⟨u, hu⟩ := hsome
    exact honly u hu ▸ hu

theorem WriterRuns.of_sound (hport : s.port.Sound) (h : s.WriterSound) (hserved : s.WriterServed) :
    s.WriterRuns false := by
  obtain ⟨hsome, honce⟩ := hserved
  have hresting (hnone : s.landing.writer = .idle ∧ ∀ w, ¬ s.port.HoldsWrite w) : s.WriterRuns false :=
    ⟨hport, fun hfalse => (by cases hfalse), fun _ => honce, fun _ w hw => hnone.2 w ((s.port.holdsWrite_iff w).2 hw),
      fun hbusy => absurd hnone.1 hbusy⟩
  cases hqueue : s.landing.queue with
  | nil => exact hresting ((writerSound_of_nil hqueue).1 h)
  | cons f rest =>
    cases hf : f.released with
    | false => exact hresting ((writerSound_of_tentative hqueue hf).1 h)
    | true =>
      refine ⟨hport, fun hfalse => (by cases hfalse), fun _ => honce, fun hidle => ?_,
        fun hbusy => ⟨f, rest, hqueue, hf, ?_⟩⟩
      · rcases (writerSound_of_released hqueue hf).1 h with ⟨hfirst, -⟩ | ⟨hsecond, -⟩
        · rw [hfirst] at hidle
          cases hidle
        · rw [hsecond] at hidle
          cases hidle
      · rcases (writerSound_of_released hqueue hf).1 h with ⟨hfirst, honly⟩ | ⟨hsecond, hsplit, honly⟩
        · rw [partInProgress_of_first (by simp [hfirst])]
          exact ⟨fun hsecond => (by rw [hfirst] at hsecond; cases hsecond), writes_iff_eq (hsome hbusy) honly⟩
        · rw [partInProgress_of_second hsecond]
          exact ⟨fun _ => hsplit, writes_iff_eq (hsome hbusy) honly⟩

theorem WriterRuns.sound (h : s.WriterRuns false) (hquiet : s.WriterQuiet) : s.WriterSound ∧ s.WriterServed := by
  refine ⟨?_, fun hbusy => ?_, h.once rfl⟩
  · cases hwriter : s.landing.writer with
    | idle =>
      have hnone : s.landing.writer = .idle ∧ ∀ w, ¬ s.port.HoldsWrite w :=
        ⟨hwriter, fun w hw => h.idle hwriter w ((s.port.holdsWrite_iff w).1 hw)⟩
      cases hqueue : s.landing.queue with
      | nil => exact (writerSound_of_nil hqueue).2 hnone
      | cons f rest =>
        have hf : f.released = false := (hquiet f rest hqueue).resolve_left fun hbusy => hbusy hwriter
        exact (writerSound_of_tentative hqueue hf).2 hnone
    | first =>
      obtain ⟨f, rest, hqueue, hf, -, hwrites⟩ := h.working (by simp [hwriter])
      rw [partInProgress_of_first (by simp [hwriter])] at hwrites
      exact (writerSound_of_released hqueue hf).2
        (.inl ⟨hwriter, fun w hw => ((hwrites w).1 ((s.port.holdsWrite_iff w).1 hw)).symm⟩)
    | second =>
      obtain ⟨f, rest, hqueue, hf, hsplit, hwrites⟩ := h.working (by simp [hwriter])
      rw [partInProgress_of_second hwriter] at hwrites
      exact (writerSound_of_released hqueue hf).2
        (.inr ⟨hwriter, hsplit hwriter, fun w hw => ((hwrites w).1 ((s.port.holdsWrite_iff w).1 hw)).symm⟩)
  · obtain ⟨f, rest, -, -, -, hwrites⟩ := h.working hbusy
    exact ⟨s.partInProgress f, (s.port.holdsWrite_iff _).2 ((hwrites _).2 rfl)⟩

namespace WriterRuns

/-- What leaves the writer, the frame in progress, its window's place, and its request at the port. -/
theorem same (h : s.WriterRuns answered) (hport : s.port.KeepsWrites t.port) (hwriter : t.landing.writer = s.landing.writer)
    (hhead : ∀ f rest, s.landing.queue = f :: rest → f.released = true →
      (∃ rest', t.landing.queue = f :: rest') ∧ (s.win f.window).SamePlace (t.win f.window)) :
    t.WriterRuns answered := by
  obtain ⟨hsound, hsame⟩ := hport h.port
  refine ⟨hsound, fun hanswered => hsame.busy (h.busy hanswered), fun hanswered => hsame.writeOnce (h.once hanswered),
    fun hidle w hw => h.idle (hwriter.symm.trans hidle) w ((hsame.writes_iff answered w).1 hw), fun hbusy => ?_⟩
  obtain ⟨f, rest, hqueue, hf, hsplit, hwrites⟩ := h.working (hwriter ▸ hbusy)
  obtain ⟨⟨rest', hqueue'⟩, hplace⟩ := hhead f rest hqueue hf
  have hpart : t.partInProgress f = s.partInProgress f := by
    rw [State.partInProgress, State.partInProgress, hwriter, firstPart_of_samePlace hplace, secondPart_of_samePlace hplace]
  refine ⟨f, rest', hqueue', hf, fun hsecond => ?_, fun w => ?_⟩
  · rw [splitAt_of_samePlace hplace]
    exact hsplit (hwriter.symm.trans hsecond)
  · rw [hsame.writes_iff, hpart]
    exact hwrites w

/-- R140: the writer takes a released frame at the head. -/
theorem writerAct (h : s.WriterRuns answered) : s.writerAct.WriterRuns answered ∧ s.writerAct.WriterQuiet := by
  by_cases hquiet : s.WriterQuiet
  · rw [writerAct_of_quiet hquiet]
    exact ⟨h, hquiet⟩
  · obtain ⟨f, rest, hqueue, hidle, hreleased⟩ : ∃ f rest, s.landing.queue = f :: rest ∧ s.landing.writer = .idle ∧
        f.released = true := by
      simp only [State.WriterQuiet, Classical.not_forall, not_or, ne_eq, Classical.not_not, Bool.not_eq_false,
        exists_prop] at hquiet
      exact hquiet
    have hnone := h.idle hidle
    rw [writerAct_of_released hqueue hidle hreleased]
    refine ⟨⟨MemPort.requestWrite_sound h.port _, fun hanswered => MemPort.requestWrite_busy (h.busy hanswered) _,
      fun hanswered => ?_, fun hfalse => (by cases hfalse),
      fun _ => ⟨f, rest, hqueue, hreleased, fun hfalse => (by cases hfalse),
        MemPort.writes_requestWrite h.port h.busy hnone _⟩⟩, fun g others _ => .inl (by simp)⟩
    subst hanswered
    exact MemPort.requestWrite_writeOnce h.port hnone _

/-- R152, R153: the completion has been dealt with, and the arbiter chooses. -/
theorem finishAccess (h : s.WriterRuns true) : s.finishAccess.WriterRuns false := by
  have hwrites (w : WriteRequest) : s.finishAccess.port.Writes false w ↔ s.port.Writes true w := by
    refine (MemPort.writes_finish s.port w).trans ?_
    simp [MemPort.Writes]
  refine ⟨MemPort.finish_sound _, fun hfalse => (by cases hfalse), fun _ => MemPort.finish_writeOnce _,
    fun hidle w hw => h.idle hidle w ((hwrites w).1 hw), fun hbusy => ?_⟩
  obtain ⟨f, rest, hqueue, hf, hsplit, hpart⟩ := h.working hbusy
  exact ⟨f, rest, hqueue, hf, hsplit, fun w => (hwrites w).trans (hpart w)⟩

/-- R152, R156: the port's answer to a read or to an orphan takes no write of the writer's from it. -/
theorem other_answered (h : s.WriterRuns false) (hflight : s.port.inFlight.isSome = true)
    (hother : s.port.orphan = true ∨ ∀ w, s.port.inFlight ≠ some (.write w)) : s.WriterRuns true := by
  have hwrites (w : WriteRequest) : s.port.Writes true w ↔ s.port.Writes false w := by
    refine or_congr_right (iff_of_false (fun hw => by cases hw.1) fun ⟨_, hw, horphan⟩ => ?_)
    rcases hother with htrue | hno
    · rw [horphan] at htrue
      cases htrue
    · exact hno w hw
  refine ⟨h.port, fun _ => hflight, fun hfalse => (by cases hfalse),
    fun hidle w hw => h.idle hidle w ((hwrites w).1 hw), fun hbusy => ?_⟩
  obtain ⟨f, rest, hqueue, hf, hsplit, hpart⟩ := h.working hbusy
  exact ⟨f, rest, hqueue, hf, hsplit, fun w => (hwrites w).trans (hpart w)⟩

/-- R152: the port's answer to the writer's own write: nothing of the writer's is with the port any more. -/
theorem write_answered (h : s.WriterRuns false) {w : WriteRequest} {f : QueuedFrame}
    (hcurrent : s.currentWrite = some (w, f)) (v : WriteRequest) : ¬ s.port.Writes true v := by
  obtain ⟨hflight, horphan, -, -⟩ := currentWrite_eq_some.1 hcurrent
  rintro (hwaits | ⟨hfalse, -⟩)
  · exact h.once rfl ⟨by rw [hwaits]; rfl, horphan, w, hflight⟩
  · cases hfalse

/-- A writer left idle while its own write's answer is dealt with. -/
theorem of_idle (h : s.WriterRuns false) {w : WriteRequest} {f : QueuedFrame} (hcurrent : s.currentWrite = some (w, f))
    (hport : t.port = s.port) (hidle : t.landing.writer = .idle) : t.WriterRuns true := by
  obtain ⟨hflight, -⟩ := currentWrite_eq_some.1 hcurrent
  refine ⟨hport ▸ h.port, fun _ => ?_, fun hfalse => (by cases hfalse), fun _ => ?_, fun hbusy => absurd hidle hbusy⟩
  · rw [hport, hflight]
    rfl
  · rw [hport]
    exact h.write_answered hcurrent

/-- R140: the frame whose write is in flight is the released one at the head. -/
theorem released_of_currentWrite (h : s.WriterRuns answered) {w : WriteRequest} {f : QueuedFrame}
    (hcurrent : s.currentWrite = some (w, f)) : (∃ rest, s.landing.queue = f :: rest) ∧ f.released = true := by
  obtain ⟨-, -, ⟨rest, hqueue⟩, hbusy⟩ := currentWrite_eq_some.1 hcurrent
  obtain ⟨g, others, hcons, hreleased, -⟩ := h.working hbusy
  rw [hqueue, List.cons.injEq] at hcons
  exact ⟨⟨rest, hqueue⟩, hcons.1 ▸ hreleased⟩

/-- R142: after the first part of a split frame the writer requests the second. -/
theorem second (h : s.WriterRuns false) {w : WriteRequest} {f : QueuedFrame} (hcurrent : s.currentWrite = some (w, f))
    (hnotLast : ¬ s.lastPart f = true) :
    ((s.setLanding { s.landing with writer := .second }).setPort
      (s.port.requestWrite (secondPart (s.win f.window) f))).WriterRuns true := by
  obtain ⟨⟨rest, hqueue⟩, hreleased⟩ := h.released_of_currentWrite hcurrent
  have hbusy : s.port.inFlight.isSome = true := by
    rw [(currentWrite_eq_some.1 hcurrent).1]
    rfl
  have hsplit : (splitAt (s.win f.window) f).isSome = true :=
    Option.isSome_iff_ne_none.2 fun hwhole => hnotLast ((s.lastPart_iff f).2 (.inr hwhole))
  exact ⟨MemPort.requestWrite_sound h.port _, fun _ => MemPort.requestWrite_busy hbusy _, fun hfalse => (by cases hfalse),
    fun hfalse => (by cases hfalse), fun _ => ⟨f, rest, hqueue, hreleased, fun _ => hsplit,
      MemPort.writes_requestWrite h.port (fun _ => hbusy) (h.write_answered hcurrent) _⟩⟩

end WriterRuns

end State

end Sys2Proof.Machine

namespace Sys2Proof.Machine

open State Answered

/-! ## What leaves the landing unit as it was -/

/-- A tenure in step goes on, for the header recorded. -/
def BusController.KeepsTenure (b b' : BusController) : Prop :=
  b.inStep = true → b.phase = .tenure → b'.inStep = true ∧ b'.phase = .tenure ∧ b'.header = b.header

namespace State

/-- Nothing of the landing unit changes but what its windows report with their notes, the port keeps the writer's request,
and a tenure goes on. -/
structure SameLanding (s t : State) : Prop where
  queue : t.landing.queue = s.landing.queue
  vote : t.landing.vote = s.landing.vote
  writer : t.landing.writer = s.landing.writer
  core : ∀ w, (t.win w).core = (s.win w).core
  port : s.port.KeepsWrites t.port
  tenure : s.bus.KeepsTenure t.bus

theorem SameLanding.of_eq {s t : State} (hlanding : t.landing = s.landing) (hport : t.port = s.port)
    (hbus : s.bus.KeepsTenure t.bus) : SameLanding s t := by
  refine ⟨congrArg Landing.queue hlanding, congrArg Landing.vote hlanding, congrArg Landing.writer hlanding, fun w => ?_,
    hport ▸ .refl _, hbus⟩
  rw [State.win, State.win, hlanding]

/-- A state that differs in blocks the landing unit has nothing to do with. -/
theorem SameLanding.of_other {s t : State} (hlanding : t.landing = s.landing) (hport : t.port = s.port)
    (hbus : t.bus = s.bus) : SameLanding s t :=
  .of_eq hlanding hport fun hstep hphase => by rw [hbus]; exact ⟨hstep, hphase, rfl⟩

theorem SameLanding.refl (s : State) : SameLanding s s := .of_other rfl rfl rfl

theorem SameLanding.trans {s t u : State} (h : SameLanding s t) (h' : SameLanding t u) : SameLanding s u := by
  refine ⟨h'.queue.trans h.queue, h'.vote.trans h.vote, h'.writer.trans h.writer,
    fun w => (h'.core w).trans (h.core w), h.port.trans h'.port, fun hstep hphase => ?_⟩
  obtain ⟨hstep', hphase', hheader'⟩ := h.tenure hstep hphase
  obtain ⟨hstep'', hphase'', hheader''⟩ := h'.tenure hstep' hphase'
  exact ⟨hstep'', hphase'', hheader''.trans hheader'⟩

section

variable (s : State)

/-- A bus controller that keeps the tenure, or is in none. -/
theorem setBus_sameLanding (b : BusController) (h : s.bus.KeepsTenure b) : SameLanding s (s.setBus b) :=
  .of_eq rfl rfl h

theorem setChan_sameLanding (c : ChannelNo) (ch : Channel) : SameLanding s (s.setChan c ch) := .of_other rfl rfl rfl

theorem setMembership_sameLanding (m : Membership) : SameLanding s (s.setMembership m) := .of_other rfl rfl rfl

theorem setLog_sameLanding (l : CompletionLog) : SameLanding s (s.setLog l) := .of_other rfl rfl rfl

theorem setCmd_sameLanding (x : CommandPort) : SameLanding s (s.setCmd x) := .of_other rfl rfl rfl

theorem setPort_sameLanding (p : MemPort) (h : s.port.KeepsWrites p) : SameLanding s (s.setPort p) :=
  ⟨rfl, rfl, rfl, fun _ => rfl, h, fun hstep hphase => ⟨hstep, hphase, rfl⟩⟩

/-- A window rewritten in what it reports with its note. -/
theorem setWin_sameLanding {w : WindowNo} {x : Window} (h : x.core = (s.win w).core) : SameLanding s (s.setWin w x) := by
  refine ⟨rfl, rfl, rfl, fun v => ?_, .refl _, fun hstep hphase => ⟨hstep, hphase, rfl⟩⟩
  rw [win_setWin]
  split
  next heq => exact heq ▸ h
  next => rfl

theorem requestRead_sameLanding (c : ChannelNo) : SameLanding s (s.requestRead c) := by
  unfold State.requestRead
  split
  · exact .refl s
  · exact (s.setChan_sameLanding c _).trans (setPort_sameLanding _ _ (MemPort.requestRead_keepsWrites _ _ _))

theorem readPoint_sameLanding (c : ChannelNo) : SameLanding s (s.readPoint c) := by
  unfold State.readPoint
  repeat' split
  · exact .refl s
  · exact s.setChan_sameLanding c _
  · exact s.requestRead_sameLanding c
  · exact s.requestRead_sameLanding c
  · exact .refl s
  · exact s.setChan_sameLanding c _

theorem startSegment_sameLanding (c : ChannelNo) (r : SegmentRecord) (staged : List SegmentRecord) :
    SameLanding s (s.startSegment c r staged) := (s.setChan_sameLanding c _).trans (readPoint_sameLanding _ c)

theorem leaveEnding_sameLanding (c : ChannelNo) (e : EndingRecord) : SameLanding s (s.leaveEnding c e) := by
  unfold State.leaveEnding
  repeat' split
  · exact s.startSegment_sameLanding c _ _
  · exact s.startSegment_sameLanding c _ _
  · exact s.startSegment_sameLanding c _ _
  all_goals exact s.setChan_sameLanding c _

theorem grant_sameLanding (p : Producer) : SameLanding s (s.grant p) := by
  cases p with
  | membership =>
    obtain ⟨m, l, h⟩ := grantMembership_shape s
    show SameLanding s s.grantMembership
    rw [h]
    exact .of_other rfl rfl rfl
  | channel c =>
    show SameLanding s (s.grantChannel c)
    unfold State.grantChannel
    repeat' split
    · exact (s.setLog_sameLanding _).trans (leaveEnding_sameLanding _ c _)
    · exact .of_other rfl rfl rfl
    · exact .refl s
  | window w =>
    show SameLanding s (s.grantWindow w)
    unfold State.grantWindow
    split
    · exact .refl s
    · exact (s.setLog_sameLanding _).trans (setWin_sameLanding _ rfl)

theorem offer_sameLanding (p : Producer) : SameLanding s (s.offer p) := by
  unfold State.offer
  split
  · exact s.grant_sameLanding p
  · exact .refl s

theorem note_sameLanding (n : NoteReason) : SameLanding s (s.note n) :=
  (s.setMembership_sameLanding _).trans (offer_sameLanding _ _)

theorem enterWithNote_sameLanding (l : LinkState) (r : Reason) : SameLanding s (s.enterWithNote l r) :=
  (s.setMembership_sameLanding _).trans (note_sameLanding _ _)

theorem activity_sameLanding : SameLanding s s.activity := .of_other rfl rfl rfl

theorem endSegment_sameLanding (c : ChannelNo) (seg : Segment) (status : SegmentStatus) :
    SameLanding s (s.endSegment c seg status) := (s.setChan_sameLanding c _).trans (offer_sameLanding _ _)

theorem commitAtSender_sameLanding (c : ChannelNo) (seg : Segment) : SameLanding s (s.commitAtSender c seg) := by
  unfold State.commitAtSender
  dsimp only
  repeat' split
  · exact s.endSegment_sameLanding c _ _
  · exact s.endSegment_sameLanding c _ _
  · exact (s.setChan_sameLanding c _).trans (readPoint_sameLanding _ c)

theorem retryAtSender_sameLanding (c : ChannelNo) (seg : Segment) : SameLanding s (s.retryAtSender c seg) := by
  unfold State.retryAtSender
  dsimp only
  repeat' split
  · exact s.endSegment_sameLanding c _ _
  · exact s.endSegment_sameLanding c _ _
  · exact s.setChan_sameLanding c _

theorem channelOutcome_sameLanding (c : ChannelNo) (o : TenureOutcome) : SameLanding s (s.channelOutcome c o) := by
  unfold State.channelOutcome
  repeat' split
  · exact s.commitAtSender_sameLanding c _
  · exact s.retryAtSender_sameLanding c _
  · exact s.retryAtSender_sameLanding c _
  · exact s.endSegment_sameLanding c _ _
  · exact s.endSegment_sameLanding c _ _
  · exact .refl s

theorem channelWithdrawal_sameLanding (c : ChannelNo) : SameLanding s (s.channelWithdrawal c) := by
  unfold State.channelWithdrawal
  repeat' split
  · exact s.endSegment_sameLanding c _ _
  · exact s.setChan_sameLanding c _
  · exact .refl s

theorem senderOutcome_sameLanding (o : TenureOutcome) : SameLanding s (s.senderOutcome o) := by
  unfold State.senderOutcome
  split
  · exact s.channelOutcome_sameLanding _ o
  all_goals exact .refl s

theorem takeFrame_sameLanding (c : ChannelNo) (seg : Segment) (f : HeldFrame) : SameLanding s (s.takeFrame c seg f) := by
  unfold State.takeFrame
  dsimp only
  split
  · exact s.setChan_sameLanding c _
  · exact (s.setChan_sameLanding c _).trans (readPoint_sameLanding _ c)

theorem dropStale_sameLanding (c : ChannelNo) : SameLanding s (s.dropStale c) := by
  unfold State.dropStale
  dsimp only
  split
  · exact (s.setChan_sameLanding c _).trans (readPoint_sameLanding _ c)
  · exact s.setChan_sameLanding c _

theorem popRecord_sameLanding : SameLanding s s.popRecord := by
  unfold State.popRecord
  split
  · exact .refl s
  · unfold State.grantFreed
    repeat' split
    · exact (s.setLog_sameLanding _).trans (grant_sameLanding _ _)
    · exact s.setLog_sameLanding _
    · exact s.setLog_sameLanding _

theorem tenureCollision_sameLanding : SameLanding s s.tenureCollision := by
  obtain ⟨m, l, h⟩ := tenureCollision_shape s
  rw [h]
  exact .of_other rfl rfl rfl

theorem reportWithdrawal_sameLanding (c : ChannelNo) : SameLanding s (s.reportWithdrawal c) := by
  have hdrawn (n : Nat) : SameLanding s (s.setChoices n) := .of_other rfl rfl rfl
  unfold State.reportWithdrawal
  dsimp only [State.draw]
  repeat' split
  · exact ((hdrawn _).trans (channelWithdrawal_sameLanding _ c)).trans (tenureCollision_sameLanding _)
  · exact ((hdrawn _).trans (tenureCollision_sameLanding _)).trans (channelWithdrawal_sameLanding _ c)
  · exact (s.channelWithdrawal_sameLanding c).trans (tenureCollision_sameLanding _)

/-! ### Host commands -/

theorem push_sameLanding : SameLanding s s.push.1 := by
  unfold State.push
  dsimp only
  repeat' split
  · exact .refl s
  · exact s.startSegment_sameLanding _ _ _
  · exact s.setChan_sameLanding _ _
  · exact .refl s

theorem stopChannel_sameLanding (c : ChannelNo) : SameLanding s (s.stopChannel c).1 := by
  unfold State.stopChannel
  split
  · exact s.endSegment_sameLanding c _ _
  · exact s.endSegment_sameLanding c _ _
  · exact s.setChan_sameLanding c _
  · exact .refl s

theorem resumeChannel_sameLanding (c : ChannelNo) : SameLanding s (s.resumeChannel c).1 := by
  unfold State.resumeChannel
  repeat' split
  · exact s.startSegment_sameLanding c _ _
  · exact s.setChan_sameLanding c _
  · exact .refl s

theorem flushChannel_sameLanding (c : ChannelNo) : SameLanding s (s.flushChannel c).1 := by
  unfold State.flushChannel
  dsimp only
  split
  · exact .refl s
  · exact (s.setChan_sameLanding c _).trans (offer_sameLanding _ _)

theorem leaveCommand_sameLanding : SameLanding s s.leaveCommand.1 := by
  unfold State.leaveCommand
  split
  · exact s.setMembership_sameLanding _
  · exact s.enterWithNote_sameLanding _ _
  · exact s.enterWithNote_sameLanding _ _
  all_goals exact .refl s

theorem joinCommand_sameLanding : SameLanding s s.joinCommand.1 := by
  unfold State.joinCommand
  split
  · exact s.setMembership_sameLanding _
  all_goals exact .refl s

/-- R165: a host command leaves the landing unit as it was where its owner does. -/
theorem takeCommand_sameLanding (code : BitVec 8) {act : State → State × Reply}
    (hact : ∀ u, SameLanding u (act u).1) : Leads (SameLanding s) (s.takeCommand code act) :=
  leads_takeCommand code (fun u x h => h.trans (u.setCmd_sameLanding x)) (.refl s) fun u h => h.trans (hact u)

theorem onChannel_sameLanding (act : ChannelNo → State × Reply) (h : ∀ c, SameLanding s (act c).1) :
    SameLanding s (s.onChannel act).1 := onChannel_keeps (.refl s) h

theorem onWindow_sameLanding (act : WindowNo → State × Reply) (h : ∀ w, SameLanding s (act w).1) :
    SameLanding s (s.onWindow act).1 := onWindow_keeps (.refl s) h

end

end State

end Sys2Proof.Machine

namespace Sys2Proof.Machine

open State Answered

/-! ## Commands that leave the landing unit as it was -/

namespace State

/-- A bus controller that keeps step, phase and header. -/
theorem SameLanding.of_phase {s t : State} (hlanding : t.landing = s.landing) (hport : t.port = s.port)
    (hstep : t.bus.inStep = s.bus.inStep) (hphase : t.bus.phase = s.bus.phase) (hheader : t.bus.header = s.bus.header) :
    SameLanding s t :=
  .of_eq hlanding hport fun hin htenure => ⟨hstep.trans hin, hphase.trans htenure, hheader⟩

/-- Outside a tenure the bus controller may become what it likes. -/
theorem SameLanding.outside {s t : State} (hlanding : t.landing = s.landing) (hport : t.port = s.port)
    (hphase : s.bus.phase ≠ .tenure) : SameLanding s t :=
  .of_eq hlanding hport fun _ htenure => absurd htenure hphase

end State

section

variable (s : State)

theorem execContestLoss_sameLanding : Leads (SameLanding s) (execContestLoss s) := by
  unfold execContestLoss
  split
  · exact .of_phase rfl rfl rfl rfl rfl
  · trivial

theorem takeWin_landing (tenureWon : Bool) (won : Option Claim) :
    (s.takeWin tenureWon won).landing = s.landing ∧ (s.takeWin tenureWon won).port = s.port := by
  unfold State.takeWin State.sendTenure
  repeat' split
  all_goals exact ⟨rfl, rfl⟩

theorem execClaimCodeEnd_sameLanding (code : BitVec 5) : Leads (SameLanding s) (execClaimCodeEnd code s) := by
  unfold execClaimCodeEnd
  split
  · split
    next hphase =>
      obtain ⟨hlanding, hport⟩ := takeWin_landing
        (s.setBus { s.bus with phase := if tenureKind code then .tenure else .census, winningCode := some code })
        (tenureKind code) (s.wonClaim code)
      exact .outside hlanding hport (by simp [hphase])
    · trivial
  · exact .refl s

theorem execContestSilence_sameLanding : Leads (SameLanding s) (execContestSilence s) := by
  unfold execContestSilence
  repeat' split
  next hphase => exact .outside rfl rfl (by simp [hphase])
  · trivial
  · exact .refl s

theorem execStepInSilence_sameLanding : Leads (SameLanding s) (execStepInSilence s) := by
  unfold execStepInSilence
  repeat' split
  · exact .refl s
  · trivial
  next hout => exact .of_eq rfl rfl fun hin _ => absurd hin hout

theorem execVerdictMark_sameLanding : Leads (SameLanding s) (execVerdictMark s) := by
  unfold execVerdictMark
  repeat' split
  · exact .of_phase rfl rfl rfl rfl rfl
  · trivial
  · exact .refl s

theorem execEchoWithdrawal_sameLanding : Leads (SameLanding s) (execEchoWithdrawal s) := by
  unfold execEchoWithdrawal
  split
  · refine SameLanding.trans (t := s.setBus { s.bus with drive := .nothing }) ?_ (reportWithdrawal_sameLanding _ _)
    exact .of_phase rfl rfl rfl rfl rfl
  · trivial

theorem execEchoMismatchTenure_sameLanding : Leads (SameLanding s) (execEchoMismatchTenure s) := by
  unfold execEchoMismatchTenure
  split
  · refine SameLanding.trans
      (t := s.setBus { s.bus with drive := .nothing, echoFailed := true, destination := false }) ?_
      (channelOutcome_sameLanding _ _ _)
    exact .of_phase rfl rfl rfl rfl rfl
  · trivial

theorem execEchoMismatchCensus_sameLanding : Leads (SameLanding s) (execEchoMismatchCensus s) := by
  unfold execEchoMismatchCensus
  split
  · exact .of_phase rfl rfl rfl rfl rfl
  · obtain ⟨m, l, heq⟩ := censusCollision_shape (s.setBus { s.bus with drive := .nothing })
    split
    · rw [leads_next, heq]
      exact .of_phase rfl rfl rfl rfl rfl
    · trivial
  · trivial

theorem execCensusHeader_sameLanding (w : WireCensusHeader) : Leads (SameLanding s) (execCensusHeader w s) := by
  unfold execCensusHeader
  repeat' split
  next hd _ =>
    obtain ⟨m, heq⟩ := openCensus_shape
      (s.activity.setBus { s.bus with censusHeader := .good, drive := afterHeader s.bus.drive }) hd
    rw [leads_next, heq]
    exact .of_phase rfl rfl rfl rfl rfl
  · exact .of_phase rfl rfl rfl rfl rfl
  · trivial
  · exact .refl s

theorem execCensusSlotTime_sameLanding : Leads (SameLanding s) (execCensusSlotTime s) := by
  unfold execCensusSlotTime
  repeat' split
  · exact .of_phase rfl rfl rfl rfl rfl
  · trivial
  · trivial
  · trivial
  · exact .refl s
  · exact .refl s
  · exact .refl s
  · trivial
  · exact .refl s

theorem followSlot_sameLanding (k : Nat) : SameLanding s (s.followSlot k) := by
  unfold State.followSlot
  split
  · exact .refl s
  next r _ =>
    obtain ⟨o, m, l, heq⟩ := endListSlots_shape s r
    dsimp only
    rw [heq]
    repeat' split
    all_goals exact .of_phase rfl rfl rfl rfl rfl

theorem execSlotMark_sameLanding : Leads (SameLanding s) (execSlotMark s) := by
  unfold execSlotMark
  split
  · refine SameLanding.trans ?_ (followSlot_sameLanding _ _)
    exact .of_phase rfl rfl rfl rfl rfl
  · exact .refl s

theorem execListSlotAnswer_sameLanding (a : WireListAnswer) : Leads (SameLanding s) (execListSlotAnswer a s) := by
  have htake (r : CensusRecord) : SameLanding s (s.activity.markAnswered.takeListAnswer r a) := by
    unfold State.takeListAnswer
    split <;> exact .of_phase rfl rfl rfl rfl rfl
  unfold execListSlotAnswer
  repeat' split
  · exact .of_phase rfl rfl rfl rfl rfl
  · exact htake _
  · trivial
  · trivial
  · exact .refl s
  · trivial

theorem execJoinSlotAnswer_sameLanding (a : WireJoinAnswer) : Leads (SameLanding s) (execJoinSlotAnswer a s) := by
  have htake (r : CensusRecord) (j : Nat) : SameLanding s (s.activity.markAnswered.takeJoinAnswer r j a) := by
    unfold State.takeJoinAnswer
    split <;> exact .of_phase rfl rfl rfl rfl rfl
  unfold execJoinSlotAnswer
  repeat' split
  · exact .of_phase rfl rfl rfl rfl rfl
  · exact htake _ _
  · trivial
  · trivial
  · exact .refl s

theorem execEndMark_sameLanding : Leads (SameLanding s) (execEndMark s) := by
  obtain ⟨o, m, l, heq⟩ := censusEnd_shape s.activity
  unfold execEndMark
  split
  next hcensus =>
    rw [leads_next, heq]
    exact .outside rfl rfl fun htenure => by simp [htenure] at hcensus
  · exact .refl s

theorem abandonCensus_landing : s.abandonCensus.landing = s.landing ∧ s.abandonCensus.port = s.port := by
  obtain ⟨m, heq⟩ := censusAbandoned_shape s
  unfold State.abandonCensus
  rw [heq]
  exact ⟨rfl, rfl⟩

theorem execCensusAbandonSilence_sameLanding : Leads (SameLanding s) (execCensusAbandonSilence s) := by
  unfold execCensusAbandonSilence
  obtain ⟨hlanding, hport⟩ := abandonCensus_landing s
  split
  · split
    next hcensus => exact .outside hlanding hport fun htenure => by simp [htenure] at hcensus
    · trivial
  · exact .refl s

theorem execIdleTimerExpiry_sameLanding : Leads (SameLanding s) (execIdleTimerExpiry s) := by
  unfold execIdleTimerExpiry
  split
  · exact s.setMembership_sameLanding _
  · trivial

theorem execFormationTimerExpiry_sameLanding : Leads (SameLanding s) (execFormationTimerExpiry s) := by
  unfold execFormationTimerExpiry
  split
  · exact s.setMembership_sameLanding _
  · trivial

theorem execResetReleased_sameLanding (pins : StrapPins) : Leads (SameLanding s) (execResetReleased pins s) := by
  unfold execResetReleased
  split
  · exact .of_other rfl rfl rfl
  · trivial

theorem execPaceActive_sameLanding (c : ChannelNo) (level : Bool) : Leads (SameLanding s) (execPaceActive c level s) := by
  unfold execPaceActive
  dsimp only
  have hpaced : SameLanding s (s.setPace (s.pace.set c level)) := .of_other rfl rfl rfl
  split
  · exact hpaced.trans (requestRead_sameLanding _ c)
  · exact hpaced

theorem execQueryChannel_sameLanding : Leads (SameLanding s) (execQueryChannel s) := by
  unfold execQueryChannel
  exact s.takeCommand_sameLanding _ fun u => u.onChannel_sameLanding _ fun _ => .refl u

theorem execUnknownCommand_sameLanding (code : BitVec 8) : Leads (SameLanding s) (execUnknownCommand code s) := by
  unfold execUnknownCommand
  split
  · trivial
  · exact s.takeCommand_sameLanding code fun u => .refl u

theorem execPop_sameLanding (enable : Bool) : Leads (SameLanding s) (execPop enable s) := by
  unfold execPop
  split
  · exact .refl s
  · exact (s.setCmd_sameLanding _).trans (popRecord_sameLanding _)

theorem execSetInterruptEnable_sameLanding (enable : Bool) : Leads (SameLanding s) (execSetInterruptEnable enable s) := by
  unfold execSetInterruptEnable
  split
  · exact .refl s
  · exact s.setCmd_sameLanding _

theorem execRegisterWrite_sameLanding (w : PlainWord) (value : Word) (enables : BitVec 4) :
    Leads (SameLanding s) (execRegisterWrite w value enables s) := by
  unfold execRegisterWrite
  repeat' split
  · exact .refl s
  · exact s.setCmd_sameLanding _
  all_goals exact .refl s

end

end Sys2Proof.Machine

namespace Sys2Proof.Machine

open State Answered

/-! ## The landing unit with its port and its vote -/

namespace State

/-- The landing unit, its request at the port, and its vote. -/
structure UnitRuns (s : State) (answered : Bool) : Prop where
  queue : s.QueueFits
  writer : s.WriterRuns answered
  vote : s.VoteSound

variable {s t : State} {answered : Bool}

theorem landingSound_iff (hport : s.port.Sound) : s.LandingSound ↔ s.UnitRuns false ∧ s.WriterQuiet := by
  constructor
  · rintro ⟨⟨hlength, hpayload, hvoted, hordered⟩, hwriter, hserved, hvote, hinside, hwindows⟩
    refine ⟨⟨⟨hlength, hpayload, hvoted, hordered, hinside, fun w => ?_⟩, .of_sound hport hwriter hserved, hvote⟩,
      hwriter.quiet⟩
    obtain ⟨hoffsets, honce, hring, hdrained⟩ := hwindows w
    exact ⟨hoffsets, honce, hring, fun hstate => (hasQueued_eq_false_iff (fun f hf => (hpayload f hf).1) w).1 (hdrained hstate)⟩
  · rintro ⟨⟨hqueue, hwriter, hvote⟩, hquiet⟩
    obtain ⟨hsound, hserved⟩ := hwriter.sound hquiet
    refine ⟨⟨hqueue.length, hqueue.payload, hqueue.voted, hqueue.ordered⟩, hsound, hserved, hvote, hqueue.inside,
      fun w => ?_⟩
    obtain ⟨hoffsets, honce, hring, hdrained⟩ := hqueue.window w
    exact ⟨hoffsets, honce, hring, fun hstate => (hasQueued_eq_false_iff (fun f hf => (hqueue.payload f hf).1) w).2 (hdrained hstate)⟩

theorem voteSound_of_none (h : s.landing.vote = none) : s.VoteSound := fun v hv => by
  rw [h] at hv
  cases hv

/-- R121: before the header and outside a tenure no vote is open. -/
theorem VoteSound.unvoted (h : s.VoteSound) (hnot : s.bus.phase ≠ .tenure ∨ s.bus.header = .awaited) :
    s.landing.vote = none := by
  refine Option.eq_none_iff_forall_ne_some.2 fun v hv => ?_
  obtain ⟨-, hphase, hd, hgood, -⟩ := h v hv
  rcases hnot with hother | hawaited
  · exact hother hphase
  · rw [hawaited] at hgood
    cases hgood

theorem WriterQuiet.same (h : s.WriterQuiet) (hst : SameLanding s t) : t.WriterQuiet := h.of_eq hst.queue hst.writer

namespace UnitRuns

theorem same (h : s.UnitRuns answered) (hst : SameLanding s t) : t.UnitRuns answered := by
  refine ⟨h.queue.of_core hst.queue hst.vote hst.core, ?_, fun v hv => ?_⟩
  · exact h.writer.same hst.port hst.writer fun f rest hqueue _ =>
      ⟨⟨rest, hst.queue.trans hqueue⟩, Window.samePlace_of_core (hst.core f.window)⟩
  · obtain ⟨hstep, hphase, hd, hheader, hmatches⟩ := h.vote v (hst.vote.symm.trans hv)
    obtain ⟨hstep', hphase', hheader'⟩ := hst.tenure hstep hphase
    exact ⟨hstep', hphase', hd, hheader'.trans hheader, hmatches⟩

/-- A window rewritten, its place kept as long as it has frames queued. -/
theorem of_setWin (h : s.UnitRuns answered) {w : WindowNo} {x : Window} (hqueue : (s.setWin w x).QueueFits)
    (hplace : s.hasQueued w = true → (s.win w).SamePlace x) : (s.setWin w x).UnitRuns answered := by
  refine ⟨hqueue, h.writer.same (.refl _) rfl fun f rest hcons _ => ⟨⟨rest, hcons⟩, ?_⟩, h.vote⟩
  rw [win_setWin]
  split
  next heq =>
    subst heq
    exact hplace ((s.hasQueued_iff f.window).2 ⟨f, hcons ▸ List.mem_cons_self, rfl⟩)
  next => exact .refl _

theorem setWin (h : s.UnitRuns answered) {w : WindowNo} {x : Window}
    (hx : x.Fits (queueBytes s.landing.queue w false) (queueBytes s.landing.queue w true))
    (hplace : s.hasQueued w = true → (s.win w).SamePlace x) : (s.setWin w x).UnitRuns answered :=
  h.of_setWin (h.queue.setWin hx hplace) hplace

theorem drainTest (h : s.UnitRuns answered) (w : WindowNo) : (s.drainTest w).UnitRuns answered := by
  have hqueue := h.queue.drainTest w
  by_cases hdrained : (s.win w).state = .closing ∧ s.hasQueued w = false
  · rw [drainTest_of_drained hdrained.1 hdrained.2] at hqueue ⊢
    exact h.of_setWin hqueue fun _ => ⟨rfl, rfl, rfl⟩
  · rw [drainTest_of_other hdrained]
    exact h

theorem noteTest (h : s.UnitRuns answered) (f : QueuedFrame) : (s.noteTest f).UnitRuns answered := by
  have hqueue := h.queue.noteTest f
  rw [noteTest_eq] at hqueue ⊢
  exact h.of_setWin hqueue fun _ => ⟨rfl, rfl, rfl⟩

theorem writerAct (h : s.UnitRuns answered) : s.writerAct.UnitRuns answered ∧ s.writerAct.WriterQuiet := by
  obtain ⟨hwriter, hquiet⟩ := h.writer.writerAct
  obtain ⟨x, p, heq⟩ := writerAct_shape s
  refine ⟨⟨?_, hwriter, ?_⟩, hquiet⟩
  · rw [heq]
    exact h.queue.of_core rfl rfl fun _ => rfl
  · rw [heq]
    exact h.vote

theorem finishAccess (h : s.UnitRuns true) : s.finishAccess.UnitRuns false :=
  ⟨h.queue.of_core rfl rfl fun _ => rfl, h.writer.finishAccess, h.vote⟩

/-- R146, R147: the window of the frame being written faults, and the writer is left idle. -/
theorem faulted (h : s.UnitRuns false) {w : WriteRequest} {f : QueuedFrame} (hcurrent : s.currentWrite = some (w, f))
    (address : Word) :
    (s.setLanding
      { windows := s.landing.windows.set f.window (s.faultedWindow f.window address)
        queue := s.landing.queue.filter fun g => !(g.window == f.window), vote := s.voteAfterFault f.window
        writer := .idle }).UnitRuns true := by
  refine ⟨h.queue.faultWindow rfl (fun v => win_setWin s f.window v (s.faultedWindow f.window address)) rfl rfl,
    h.writer.of_idle hcurrent rfl rfl, fun v hv => ?_⟩
  obtain ⟨u, hu, rfl⟩ := Option.map_eq_some_iff.1 hv
  obtain ⟨hstep, hphase, hd, hgood, hmatches⟩ := h.vote u hu
  refine ⟨hstep, hphase, hd, hgood, ?_⟩
  split <;> exact hmatches

end UnitRuns

/-- The landing unit between tenures: no vote is open. -/
structure UnitRests (s : State) (answered : Bool) : Prop where
  runs : s.UnitRuns answered
  quiet : s.WriterQuiet
  unvoted : s.landing.vote = none

theorem UnitRests.same (h : s.UnitRests answered) (hst : SameLanding s t) : t.UnitRests answered :=
  ⟨h.runs.same hst, h.quiet.same hst, hst.vote.trans h.unvoted⟩

/-- Without a vote the bus controller may become what it likes. -/
theorem UnitRests.setBus (h : s.UnitRests answered) (b : BusController) : (s.setBus b).UnitRests answered :=
  ⟨⟨h.runs.queue.of_core rfl rfl fun _ => rfl,
    h.runs.writer.same (.refl _) rfl fun _ rest hqueue _ => ⟨⟨rest, hqueue⟩, .refl _⟩, voteSound_of_none h.unvoted⟩,
    h.quiet.of_eq rfl rfl, h.unvoted⟩

/-! ### The outcome of a tenure (R138, R139) -/

theorem UnitRuns.writerAct_rests (h : s.UnitRuns answered) (hvote : s.landing.vote = none) :
    s.writerAct.UnitRests answered := by
  obtain ⟨hruns, hquiet⟩ := h.writerAct
  refine ⟨hruns, hquiet, ?_⟩
  obtain ⟨x, p, heq⟩ := writerAct_shape s
  rw [heq]
  exact hvote

/-- R138: a COMMIT. -/
theorem UnitRuns.landingCommit (h : s.UnitRuns answered) : s.landingCommit.UnitRests answered := by
  rcases Option.eq_none_or_eq_some s.landing.vote with hv | ⟨v, hv⟩
  · rw [landingCommit_of_none hv, map_released_of_all (h.queue.released_of_no_vote hv)]
    refine writerAct_rests ⟨h.queue.of_core rfl hv.symm fun _ => rfl, ?_, voteSound_of_none rfl⟩ rfl
    exact h.writer.same (.refl _) rfl fun _ rest hqueue _ => ⟨⟨rest, hqueue⟩, .refl _⟩
  · rw [landingCommit_of_vote hv]
    refine writerAct_rests ⟨h.queue.commit hv (fun w => win_setWin s v.window w _) rfl, ?_, voteSound_of_none rfl⟩ rfl
    refine h.writer.same (.refl _) rfl fun f rest hqueue hf =>
      ⟨⟨rest.map fun f => { f with released := true }, ?_⟩, ?_⟩
    · show (s.landing.queue.map fun f => { f with released := true }) = _
      rw [hqueue, List.map_cons, ← hf]
    · show (s.win f.window).SamePlace ((s.setWin v.window _).win f.window)
      rw [win_setWin]
      split
      next heq => exact heq ▸ ⟨rfl, rfl, rfl⟩
      next => exact .refl _

/-- R137: behind a tentative head there is no released frame. -/
theorem QueueFits.released_head (h : s.QueueFits) {f g : QueuedFrame} {rest rest' : List QueuedFrame}
    (hqueue : s.landing.queue = f :: rest) (hkept : (s.landing.queue.filter fun f => f.released) = g :: rest') :
    f.released = true := by
  refine Bool.not_eq_false _ ▸ fun hno => ?_
  have hmem : g ∈ s.landing.queue.filter fun f => f.released := hkept ▸ List.mem_cons_self
  obtain ⟨hg, hreleased⟩ := List.mem_filter.1 hmem
  have hordered := h.ordered
  rw [hqueue] at hordered hg
  rcases List.mem_cons.1 hg with rfl | hg
  · rw [hno] at hreleased
    cases hreleased
  · rw [(List.pairwise_cons.1 hordered).1 g hg hno] at hreleased
    cases hreleased

/-- R139: the tentative frames leave the queue, and the vote's window goes back to C. -/
def dropTentative (s : State) (v : TenureVote) : State :=
  { s with
    landing :=
      { s.landing with
        windows := s.landing.windows.set v.window (s.win v.window).setBack
        queue := s.landing.queue.filter fun f => f.released
        vote := none } }

theorem landingDrop_eq {v : TenureVote} (hv : s.landing.vote = some v) :
    s.landingDrop = ((s.dropTentative v).drainTest v.window).offer (.window v.window) := landingDrop_of_vote hv

theorem win_dropTentative (v : TenureVote) (w : WindowNo) :
    (s.dropTentative v).win w = if v.window = w then (s.win v.window).setBack else s.win w :=
  win_setWin s v.window w _

theorem UnitRuns.dropTentative (h : s.UnitRuns answered) (hquiet : s.WriterQuiet) {v : TenureVote}
    (hv : s.landing.vote = some v) : (s.dropTentative v).UnitRests answered := by
  refine ⟨⟨h.queue.drop hv (win_dropTentative v) rfl, ?_, voteSound_of_none rfl⟩, fun g rest' hkept => ?_, rfl⟩
  · refine h.writer.same (.refl _) rfl fun f rest hqueue hf => ⟨⟨rest.filter fun f => f.released, ?_⟩, ?_⟩
    · show (s.landing.queue.filter fun f => f.released) = _
      rw [hqueue, List.filter_cons_of_pos hf]
    · rw [win_dropTentative]
      split
      next heq => exact heq ▸ Window.samePlace_setBack _
      next => exact .refl _
  · replace hkept : (s.landing.queue.filter fun f => f.released) = g :: rest' := hkept
    cases hqueue : s.landing.queue with
    | nil =>
      rw [hqueue] at hkept
      cases hkept
    | cons f rest =>
      have hf := h.queue.released_head hqueue hkept
      exact .inl ((hquiet f rest hqueue).resolve_right (by simp [hf]))

/-- R145: the drain test between tenures. -/
theorem UnitRests.drainTest (h : s.UnitRests answered) (w : WindowNo) : (s.drainTest w).UnitRests answered := by
  have hruns := h.runs.drainTest w
  obtain ⟨x, hx⟩ := drainTest_shape s w
  rw [hx] at hruns ⊢
  exact ⟨hruns, h.quiet.of_eq rfl rfl, h.unvoted⟩

/-- R139: any other outcome. -/
theorem UnitRuns.landingDrop (h : s.UnitRuns answered) (hquiet : s.WriterQuiet) :
    s.landingDrop.UnitRests answered := by
  rcases Option.eq_none_or_eq_some s.landing.vote with hv | ⟨v, hv⟩
  · rw [landingDrop_of_none hv, List.filter_eq_self.2 (h.queue.released_of_no_vote hv)]
    exact ⟨h, hquiet, hv⟩
  · rw [landingDrop_eq hv]
    exact ((h.dropTentative hquiet hv).drainTest v.window).same (offer_sameLanding _ _)

theorem UnitRuns.landingOutcome (h : s.UnitRuns answered) (hquiet : s.WriterQuiet) (o : TenureOutcome) :
    (s.landingOutcome o).UnitRests answered := by
  by_cases ho : o = .commit
  · subst ho
    exact h.landingCommit
  · rw [landingOutcome_of_not_commit ho]
    exact h.landingDrop hquiet

theorem UnitRuns.takeOutcome (h : s.UnitRuns answered) (hquiet : s.WriterQuiet) (o : TenureOutcome) :
    (s.takeOutcome o).UnitRests answered := by
  have hsent {t : State} (ht : SameLanding s t) : ((t.senderOutcome o).landingOutcome o).UnitRests answered := by
    have hboth := ht.trans (senderOutcome_sameLanding t o)
    exact (h.same hboth).landingOutcome (hquiet.same hboth) o
  have hdrawn : SameLanding s s.draw.2 := .of_other rfl rfl rfl
  unfold State.takeOutcome
  split
  · dsimp only
    split
    · exact hsent hdrawn
    · exact ((h.same hdrawn).landingOutcome (hquiet.same hdrawn) o).same (senderOutcome_sameLanding _ o)
  · exact hsent (.refl s)

/-- R20: a tenure end leaves no vote open. -/
theorem UnitRuns.tenureEnd (h : s.UnitRuns answered) (hquiet : s.WriterQuiet) (o : TenureOutcome) :
    (s.tenureEnd o).UnitRests answered := by
  have hcounted : SameLanding s s.rotate.countTenure := .of_other rfl rfl rfl
  exact ((h.same hcounted).takeOutcome (hquiet.same hcounted) o).setBus _

/-! ### Header and frames (R121 to R124) -/

/-- A vote that stands for the tentative frames already queued. -/
theorem UnitRuns.revote (h : s.UnitRuns answered) {v : TenureVote} (hlanding : t.landing = { s.landing with vote := some v })
    (hport : t.port = s.port)
    (hvoted : ∀ f ∈ s.landing.queue, f.released = false → f.window = v.window ∧ f.sender = v.sender ∧ f.tenure = v.tenure)
    (hsound : t.VoteSound) : t.UnitRuns answered := by
  have hwin (w : WindowNo) : t.win w = s.win w := by
    rw [State.win, hlanding]
    rfl
  have hqueue : t.landing.queue = s.landing.queue := by rw [hlanding]
  refine ⟨⟨hqueue ▸ h.queue.length, hqueue ▸ h.queue.payload, ?_, hqueue ▸ h.queue.ordered, ?_, fun w => ?_⟩, ?_, hsound⟩
  · rw [hqueue]
    exact fun f hf hno => ⟨v, by rw [hlanding], hvoted f hf hno⟩
  · rw [hqueue]
    exact fun f hf => hwin f.window ▸ h.queue.inside f hf
  · rw [hqueue, hwin]
    exact h.queue.window w
  · exact h.writer.same (hport ▸ .refl _) (by rw [hlanding]) fun f rest hcons _ =>
      ⟨⟨rest, hqueue.trans hcons⟩, hwin f.window ▸ .refl _⟩

/-- R121: the header of a tenure opens its vote. -/
theorem UnitRuns.takeHeader (h : s.UnitRuns answered) (hstep : s.bus.inStep = true) (hphase : s.bus.phase = .tenure)
    (hawaited : s.bus.header = .awaited) (hd : Header) : (s.takeHeader hd).UnitRuns answered := by
  have hnone := h.vote.unvoted (.inr hawaited)
  unfold State.takeHeader
  dsimp only
  split
  · refine h.revote rfl rfl (fun f hf hno => ?_) fun v hv => ⟨hstep, hphase, hd, rfl, ?_⟩
    · rw [h.queue.released_of_no_vote hnone f hf] at hno
      cases hno
    · cases Option.some.inj hv
      exact ⟨rfl, rfl⟩
  · refine ⟨h.queue.of_core rfl rfl fun _ => rfl, ?_, voteSound_of_none hnone⟩
    exact h.writer.same (.refl _) rfl fun _ rest hqueue _ => ⟨⟨rest, hqueue⟩, .refl _⟩

/-- R122: a frame handed to the landing unit. -/
theorem UnitRuns.landFrame (h : s.UnitRuns answered) {hd : Header} (hgood : s.bus.header = .good hd) {f : WireFrame}
    (hpayload : 1 ≤ f.payload.length ∧ f.payload.length ≤ 64) : (s.landFrame hd.sender f).UnitRuns answered := by
  rcases Option.eq_none_or_eq_some s.landing.vote with hv | ⟨v, hv⟩
  · rw [State.landFrame, hv]
    exact h
  · obtain ⟨hstep, hphase, g, hheader, hwindow, hsender⟩ := h.vote v hv
    have hsame : g = hd := by
      rw [hgood] at hheader
      cases hheader
      rfl
    have hvote {v' : TenureVote} (hw : v'.window = v.window) (hs : v'.sender = v.sender) :
        s.bus.inStep = true ∧ s.bus.phase = .tenure ∧
          ∃ k, s.bus.header = .good k ∧ k.window = v'.window ∧ k.sender = v'.sender :=
      ⟨hstep, hphase, g, hheader, hwindow.trans hw.symm, hsender.trans hs.symm⟩
    by_cases haccept : Machine.frameVote (s.win v.window) s.landing.queue.length hd.sender f = .accept
    · rw [landFrame_of_accept hv haccept]
      refine ⟨h.queue.accept hv (hsender.symm.trans (by rw [hsame])) hpayload haccept
        (fun w => win_setWin s v.window w _) rfl rfl ⟨rfl, rfl, rfl⟩, ?_, fun v' hv' => ?_⟩
      · refine h.writer.same (.refl _) rfl fun k rest hqueue _ => ⟨⟨rest ++ [queuedFrameOf (s.win v.window) v hd.sender f], ?_⟩, ?_⟩
        · show s.landing.queue ++ [_] = _
          rw [hqueue, List.cons_append]
        · show (s.win k.window).SamePlace ((s.setWin v.window _).win k.window)
          rw [win_setWin]
          split
          next heq => exact heq ▸ Window.samePlace_acceptBytes _ _
          next => exact .refl _
      · cases Option.some.inj hv'
        exact hvote rfl rfl
    · rw [landFrame_of_not_accept hv haccept]
      refine h.revote rfl rfl (fun k hk hno => ?_) fun v' hv' => ?_
      · obtain ⟨u, hu, hmatches⟩ := h.queue.voted k hk hno
        rw [hv] at hu
        cases hu
        exact hmatches
      · cases Option.some.inj hv'
        exact hvote rfl rfl

end State

end Sys2Proof.Machine

namespace Sys2Proof.Machine

open State Answered

namespace State

/-- The landing unit as every command finds and leaves it. -/
structure UnitFits (s : State) : Prop where
  runs : s.UnitRuns false
  quiet : s.WriterQuiet

variable {s t : State}

namespace UnitFits

theorem same (h : s.UnitFits) (hst : SameLanding s t) : t.UnitFits := ⟨h.runs.same hst, h.quiet.same hst⟩

theorem of_rests (h : s.UnitRests false) : s.UnitFits := ⟨h.runs, h.quiet⟩

theorem leads_same (h : s.UnitFits) {a : Answered} (ha : Leads (SameLanding s) a) : Leads UnitFits a := by
  cases a with
  | next t => exact h.same ha
  | fault _ => trivial
  | refused _ => trivial

theorem tenureEnd (h : s.UnitFits) (o : TenureOutcome) : (s.tenureEnd o).UnitRests false := h.runs.tenureEnd h.quiet o

/-! ### Window commands (R127 to R132) -/

theorem setWin (h : s.UnitFits) {w : WindowNo} {x : Window}
    (hx : x.Fits (queueBytes s.landing.queue w false) (queueBytes s.landing.queue w true))
    (hplace : s.hasQueued w = true → (s.win w).SamePlace x) : (s.setWin w x).UnitFits :=
  ⟨h.runs.setWin hx hplace, h.quiet.of_eq rfl rfl⟩

/-- R117: a window without frames in the queue may be rewritten as one that fits none. -/
theorem setWin_of_absent (h : s.UnitFits) {w : WindowNo} {x : Window} (hx : x.Fits 0 0)
    (habsent : s.hasQueued w = false) : (s.setWin w x).UnitFits := by
  obtain ⟨hfalse, htrue⟩ := (h.runs.queue.absent_iff w).1 habsent
  refine h.setWin (by rw [hfalse, htrue]; exact hx) fun hqueued => ?_
  rw [habsent] at hqueued
  cases hqueued

theorem drained (h : s.UnitFits) {w : WindowNo}
    (hstate : (s.win w).state = .closed ∨ (s.win w).state = .full ∨ (s.win w).state = .faulted) :
    s.hasQueued w = false := (h.runs.queue.absent_iff w).2 ((h.runs.queue.window w).drained hstate)

theorem drainTest (h : s.UnitFits) (w : WindowNo) : (s.drainTest w).UnitFits := by
  have hruns := h.runs.drainTest w
  obtain ⟨x, hx⟩ := drainTest_shape s w
  rw [hx] at hruns ⊢
  exact ⟨hruns, h.quiet.of_eq rfl rfl⟩

theorem openCommand (h : s.UnitFits) : s.openCommand.1.UnitFits := by
  cases hfields : openFields s.cmd.words with
  | none =>
    rw [openCommand_of_bad hfields]
    exact h
  | some wf =>
    obtain ⟨w, f⟩ := wf
    by_cases hclosed : (s.win w).state = .closed
    · rw [openCommand_of_closed hfields hclosed]
      exact h.setWin_of_absent (.opening (openFields_eq_some.1 hfields).2.2.2.2) (h.drained (.inl hclosed))
    · rw [openCommand_of_other hfields hclosed]
      exact h

theorem closeCommand (h : s.UnitFits) (w : WindowNo) : (s.closeCommand w).1.UnitFits := by
  have hdraining (hstate : (s.win w).state = .opened ∨ (s.win w).state = .full) : (s.closeCommand w).1.UnitFits := by
    rw [closeCommand_of_draining hstate]
    exact ((h.setWin ((h.runs.queue.window w).closing hstate) fun _ => ⟨rfl, rfl, rfl⟩).drainTest w).same
      (offer_sameLanding _ _)
  cases hstate : (s.win w).state with
  | opened => exact hdraining (.inl hstate)
  | full => exact hdraining (.inr hstate)
  | faulted =>
    rw [closeCommand_of_faulted hstate]
    exact (h.setWin_of_absent (.closed rfl) (h.drained (.inr (.inr hstate)))).same (offer_sameLanding _ _)
  | closed =>
    rw [closeCommand_of_other (.inl hstate)]
    exact h
  | closing =>
    rw [closeCommand_of_other (.inr hstate)]
    exact h

theorem consumeCommand (h : s.UnitFits) (w : WindowNo) : (s.consumeCommand w).1.UnitFits := by
  unfold State.consumeCommand
  dsimp only
  repeat' split
  · exact h
  · exact h
  · exact h
  next hopen _ hwithin =>
    exact h.setWin ((h.runs.queue.window w).consume (Classical.not_not.1 hopen) (Nat.not_lt.1 hwithin)) fun _ => ⟨rfl, rfl, rfl⟩

theorem rearmCommand (h : s.UnitFits) (w : WindowNo) : (s.rearmCommand w).1.UnitFits := by
  by_cases hfull : (s.win w).state = .full
  · rw [rearmCommand_of_full hfull]
    exact h.setWin ((h.runs.queue.window w).rearmed hfull) fun _ => ⟨rfl, rfl, rfl⟩
  · rw [rearmCommand_of_other hfull]
    exact h

/-- R165: a host command keeps the landing unit sound where its owner does. -/
theorem takeCommand (h : s.UnitFits) (code : BitVec 8) {act : State → State × Reply}
    (hact : ∀ {u : State}, u.UnitFits → (act u).1.UnitFits) : Leads UnitFits (s.takeCommand code act) :=
  leads_takeCommand code (fun u x hu => hu.same (u.setCmd_sameLanding x)) h fun _ hu => hact hu

theorem windowCommand (h : s.UnitFits) (code : BitVec 8) {act : State → WindowNo → State × Reply}
    (hact : ∀ {u : State}, u.UnitFits → ∀ w, (act u w).1.UnitFits) :
    Leads UnitFits (s.takeCommand code fun s => s.onWindow (act s)) :=
  h.takeCommand code fun hu => onWindow_keeps hu (hact hu)

/-! ### Tenures -/

theorem unvoted (h : s.UnitFits) (hnot : s.bus.phase ≠ .tenure ∨ s.bus.header = .awaited) : s.UnitRests false :=
  ⟨h.runs, h.quiet, h.runs.vote.unvoted hnot⟩

theorem execStartMark (h : s.UnitFits) : Leads UnitFits (Machine.execStartMark s) := by
  have hended : s.endedByStartMark.UnitRests false := by
    unfold State.endedByStartMark
    split
    · exact h.tenureEnd _
    next hphase =>
      obtain ⟨hlanding, hport⟩ := abandonCensus_landing s
      exact (h.unvoted (.inl (by simp [hphase]))).same (.outside hlanding hport (by simp [hphase]))
    next hphase => exact h.unvoted (.inl (by simp [hphase]))
    next hphase => exact h.unvoted (.inl (by simp [hphase]))
  unfold Machine.execStartMark
  repeat' split
  · exact h
  · exact of_rests ((hended.same (activity_sameLanding _)).setBus _)
  next hout => exact h.same (.of_eq rfl rfl fun hin _ => absurd hin hout)

theorem takeHeader_landing (s : State) (hd : Header) :
    (s.takeHeader hd).landing.queue = s.landing.queue ∧ (s.takeHeader hd).landing.writer = s.landing.writer := by
  unfold State.takeHeader
  dsimp only
  split <;> exact ⟨rfl, rfl⟩

theorem execTenureHeader (h : s.UnitFits) (w : WireHeader) : Leads UnitFits (Machine.execTenureHeader w s) := by
  unfold Machine.execTenureHeader
  split
  next hfollows =>
    split
    next hpoint =>
      obtain ⟨hphase, hawaited, -⟩ := hpoint
      split
      next hd _ =>
        obtain ⟨hqueue, hwriter⟩ := takeHeader_landing s.activity hd
        exact ⟨(h.runs.same s.activity_sameLanding).takeHeader (s.follows_iff.1 hfollows).1 hphase hawaited hd,
          h.quiet.of_eq hqueue hwriter⟩
      · exact of_rests (((h.unvoted (.inr hawaited)).same s.activity_sameLanding).setBus _)
    · trivial
  · exact h

theorem landFrame (h : s.UnitFits) {hd : Header} (hgood : s.bus.header = .good hd) {f : WireFrame}
    (hpayload : 1 ≤ f.payload.length ∧ f.payload.length ≤ 64) : (s.landFrame hd.sender f).UnitFits := by
  refine ⟨h.runs.landFrame hgood hpayload, ?_⟩
  rcases Option.eq_none_or_eq_some s.landing.vote with hv | ⟨v, hv⟩
  · rw [State.landFrame, hv]
    exact h.quiet
  · by_cases haccept : Machine.frameVote (s.win v.window) s.landing.queue.length hd.sender f = .accept
    · rw [landFrame_of_accept hv haccept]
      intro g rest happended
      replace happended : s.landing.queue ++ [queuedFrameOf (s.win v.window) v hd.sender f] = g :: rest := happended
      cases hqueue : s.landing.queue with
      | nil =>
        rw [hqueue, List.nil_append, List.cons.injEq] at happended
        exact .inr (happended.1 ▸ rfl)
      | cons k others =>
        rw [hqueue, List.cons_append, List.cons.injEq] at happended
        exact happended.1 ▸ h.quiet k others hqueue
    · rw [landFrame_of_not_accept hv haccept]
      exact h.quiet.of_eq rfl rfl

theorem execFrame (h : s.UnitFits) (f : WireFrame) : Leads UnitFits (Machine.execFrame f s) := by
  have hactive := h.same s.activity_sameLanding
  unfold Machine.execFrame
  split
  next hwell =>
    split
    · split
      · split
        next hd hgood =>
          have hcounted : (s.activity.setBus { s.activity.bus with framesReceived := s.bus.framesReceived + 1 }).UnitFits :=
            hactive.same (.of_phase rfl rfl rfl rfl rfl)
          rw [leads_next, State.takeFrameArrival]
          dsimp only
          repeat' split
          · refine hcounted.landFrame hgood ?_
            simpa [WireFrame.wellFormed] using hwell
          · exact hactive.same (.of_phase rfl rfl rfl rfl rfl)
          · exact hcounted
        · exact hactive
        · exact hactive
      · trivial
    · exact h
  · trivial

theorem execVerdictSample (h : s.UnitFits) (lines : Lines) : Leads UnitFits (Machine.execVerdictSample lines s) := by
  unfold Machine.execVerdictSample
  repeat' split
  · exact of_rests (h.tenureEnd _)
  · trivial
  · exact h

theorem execTruncation (h : s.UnitFits) : Leads UnitFits (Machine.execTruncation s) := by
  unfold Machine.execTruncation
  repeat' split
  · exact of_rests (h.tenureEnd _)
  · trivial
  · exact h

/-! ### Completions (R141, R142, R146, R152, R156) -/

/-- R152: the answer to a read, or to an orphan, is dealt with outside the landing unit. -/
theorem finishAccess_of_other (h : s.UnitFits) (hflight : s.port.inFlight.isSome = true)
    (hother : s.port.orphan = true ∨ ∀ w, s.port.inFlight ≠ some (.write w)) (hst : SameLanding s t) :
    t.finishAccess.UnitFits := by
  have hanswered : s.UnitRuns true := ⟨h.runs.queue, h.runs.writer.other_answered hflight hother, h.runs.vote⟩
  exact ⟨(hanswered.same hst).finishAccess, (h.quiet.same hst).finishAccess⟩

theorem finishAccess_of_read (h : s.UnitFits) {c : ChannelNo} {r : ReadRequest}
    (hflight : s.port.inFlight = some (.read c r)) (hst : SameLanding s t) : t.finishAccess.UnitFits :=
  h.finishAccess_of_other (by rw [hflight]; rfl) (.inr fun w hw => by rw [hflight] at hw; cases hw) hst

theorem execFrameReadCompletion (h : s.UnitFits) (words : List Word) :
    Leads UnitFits (Machine.execFrameReadCompletion words s) := by
  unfold Machine.execFrameReadCompletion
  repeat' split
  next hcurrent _ => exact h.finishAccess_of_read (currentRead_eq_some.1 hcurrent).1 (takeFrame_sameLanding _ _ _ _)
  all_goals trivial

theorem execReadFault (h : s.UnitFits) : Leads UnitFits (Machine.execReadFault s) := by
  unfold Machine.execReadFault
  split
  next hcurrent =>
    exact h.finishAccess_of_read (currentRead_eq_some.1 hcurrent).1
      ((setChan_sameLanding _ _ _).trans (endSegment_sameLanding _ _ _ _))
  · trivial

theorem execStaleReadCompletion (h : s.UnitFits) : Leads UnitFits (Machine.execStaleReadCompletion s) := by
  unfold Machine.execStaleReadCompletion
  repeat' split
  next hflight _ _ => exact h.finishAccess_of_read hflight (dropStale_sameLanding _ _)
  all_goals trivial

theorem execOrphanCompletion (h : s.UnitFits) : Leads UnitFits (Machine.execOrphanCompletion s) := by
  unfold Machine.execOrphanCompletion
  split
  next hboth =>
    obtain ⟨hflight, horphan⟩ := Bool.and_eq_true_iff.1 hboth
    exact h.finishAccess_of_other hflight (.inl horphan) (.refl s)
  · trivial

theorem execLandingWriteCompletion (h : s.UnitFits) : Leads UnitFits (Machine.execLandingWriteCompletion s) := by
  unfold Machine.execLandingWriteCompletion
  repeat' split
  next w f hcurrent _ =>
    obtain ⟨⟨rest, hqueue⟩, hreleased⟩ := h.runs.writer.released_of_currentWrite hcurrent
    have hwritten : (s.frameWritten f).UnitRuns true :=
      ⟨h.runs.queue.frameWritten hqueue hreleased, h.runs.writer.of_idle hcurrent rfl rfl, h.runs.vote⟩
    have hevents := ((hwritten.noteTest f).drainTest f.window).same (offer_sameLanding _ (.window f.window))
    obtain ⟨hruns, hquiet⟩ := hevents.writerAct
    exact ⟨hruns.finishAccess, hquiet.finishAccess⟩
  all_goals trivial

theorem execSplitFirstPartCompletion (h : s.UnitFits) : Leads UnitFits (Machine.execSplitFirstPartCompletion s) := by
  unfold Machine.execSplitFirstPartCompletion
  split
  next w f hcurrent =>
    split
    · trivial
    next hnotLast =>
      have hruns : ((s.setLanding { s.landing with writer := .second }).setPort
          (s.port.requestWrite (secondPart (s.win f.window) f))).UnitRuns true :=
        ⟨h.runs.queue.of_core rfl rfl fun _ => rfl, h.runs.writer.second hcurrent hnotLast, h.runs.vote⟩
      exact ⟨hruns.finishAccess, fun _ _ _ => .inl (by simp [State.finishAccess])⟩
  · trivial

theorem execWriteFault (h : s.UnitFits) : Leads UnitFits (Machine.execWriteFault s) := by
  unfold Machine.execWriteFault
  split
  next w f hcurrent =>
    rw [leads_next, faultWindow_eq]
    obtain ⟨hruns, hquiet⟩ := ((h.runs.faulted hcurrent (BitVec.ofNat 32 w.addr)).same
      (offer_sameLanding _ (.window f.window))).writerAct
    exact ⟨hruns.finishAccess, hquiet.finishAccess⟩
  · trivial

end UnitFits

/-! ### Resets (R134, R148, R155, R156) -/

/-- R134, R148: landing unit and port after a reset, with an orphan in flight or nothing. -/
theorem unitRests_of_reset (hlanding : t.landing = Landing.reset) (hreads : t.port.reads = Vector.replicate 4 none)
    (hwrite : t.port.write = none) (horphan : t.port.orphan = t.port.inFlight.isSome) : t.UnitRests false := by
  have hqueue : t.landing.queue = [] := by rw [hlanding]; rfl
  have hvote : t.landing.vote = none := by rw [hlanding]; rfl
  have hidle : t.landing.writer = .idle := by rw [hlanding]; rfl
  have hclosed (w : WindowNo) : (t.win w).state = .closed := by
    rw [State.win, hlanding]
    exact congrArg Window.state (Vector.getElem_replicate _)
  refine ⟨⟨⟨?_, ?_, ?_, ?_, ?_, fun w => ?_⟩, ⟨?_, fun hfalse => (by cases hfalse), fun _ => ?_, fun _ w => ?_,
    fun hbusy => absurd hidle hbusy⟩, voteSound_of_none hvote⟩, ?_, hvote⟩
  · rw [hqueue]
    exact Nat.zero_le _
  · rw [hqueue]
    exact fun f hf => by cases hf
  · rw [hqueue]
    exact fun f hf => by cases hf
  · rw [hqueue]
    exact .nil
  · rw [hqueue]
    exact fun f hf => by cases hf
  · rw [hqueue]
    exact .closed (hclosed w)
  · refine ⟨fun _ => ⟨hwrite, fun c => ?_⟩, fun htrue => horphan ▸ htrue⟩
    rw [hreads]
    exact Vector.getElem_replicate _
  · rintro ⟨hwaits, -⟩
    rw [hwrite] at hwaits
    cases hwaits
  · rintro (hwaits | ⟨-, hflight, hno⟩)
    · rw [hwrite] at hwaits
      cases hwaits
    · rw [hno, hflight] at horphan
      cases horphan
  · rw [State.WriterQuiet, hqueue]
    exact fun f rest hcons => by cases hcons

theorem UnitFits.execStationReset (h : s.UnitFits) (pins : StrapPins) :
    Leads UnitFits (Machine.execStationReset pins s) := by
  unfold Machine.execStationReset
  split
  · exact h
  · have hcleared : ((s.clearBlocks.setPort s.port.stationReset).comeUp pins).UnitRests false :=
      unitRests_of_reset rfl rfl rfl rfl
    exact .of_rests (hcleared.same (note_sameLanding _ _))

/-- Every command keeps the landing unit sound. -/
theorem UnitFits.exec (h : s.UnitFits) (i : Instr) : Leads UnitFits (Machine.exec i s) := by
  cases i with
  | startMark => exact h.execStartMark
  | contestLoss => exact h.leads_same (execContestLoss_sameLanding s)
  | claimCodeEnd code => exact h.leads_same (execClaimCodeEnd_sameLanding s code)
  | contestSilence => exact h.leads_same (execContestSilence_sameLanding s)
  | stepInSilence => exact h.leads_same (execStepInSilence_sameLanding s)
  | tenureHeader w => exact h.execTenureHeader w
  | frame f => exact h.execFrame f
  | verdictMark => exact h.leads_same (execVerdictMark_sameLanding s)
  | verdictSample lines => exact h.execVerdictSample lines
  | truncation => exact h.execTruncation
  | echoWithdrawal => exact h.leads_same (execEchoWithdrawal_sameLanding s)
  | echoMismatchTenure => exact h.leads_same (execEchoMismatchTenure_sameLanding s)
  | echoMismatchCensus => exact h.leads_same (execEchoMismatchCensus_sameLanding s)
  | censusHeader w => exact h.leads_same (execCensusHeader_sameLanding s w)
  | censusSlotTime => exact h.leads_same (execCensusSlotTime_sameLanding s)
  | slotMark => exact h.leads_same (execSlotMark_sameLanding s)
  | listSlotAnswer a => exact h.leads_same (execListSlotAnswer_sameLanding s a)
  | joinSlotAnswer a => exact h.leads_same (execJoinSlotAnswer_sameLanding s a)
  | endMark => exact h.leads_same (execEndMark_sameLanding s)
  | censusAbandonSilence => exact h.leads_same (execCensusAbandonSilence_sameLanding s)
  | idleTimerExpiry => exact h.leads_same (execIdleTimerExpiry_sameLanding s)
  | formationTimerExpiry => exact h.leads_same (execFormationTimerExpiry_sameLanding s)
  | resetAsserted =>
    exact .of_rests (unitRests_of_reset (t := (s.clearBlocks.setPort MemPort.reset).setMembership _) rfl rfl rfl rfl)
  | resetReleased pins => exact h.leads_same (execResetReleased_sameLanding s pins)
  | paceActive c level => exact h.leads_same (execPaceActive_sameLanding s c level)
  | frameReadCompletion words => exact h.execFrameReadCompletion words
  | readFault => exact h.execReadFault
  | staleReadCompletion => exact h.execStaleReadCompletion
  | landingWriteCompletion => exact h.execLandingWriteCompletion
  | splitFirstPartCompletion => exact h.execSplitFirstPartCompletion
  | writeFault => exact h.execWriteFault
  | orphanCompletion => exact h.execOrphanCompletion
  | push => exact h.leads_same (s.takeCommand_sameLanding _ push_sameLanding)
  | stop => exact h.leads_same (s.takeCommand_sameLanding _ fun u => u.onChannel_sameLanding _ u.stopChannel_sameLanding)
  | resume => exact h.leads_same (s.takeCommand_sameLanding _ fun u => u.onChannel_sameLanding _ u.resumeChannel_sameLanding)
  | flush => exact h.leads_same (s.takeCommand_sameLanding _ fun u => u.onChannel_sameLanding _ u.flushChannel_sameLanding)
  | queryChannel => exact h.leads_same (execQueryChannel_sameLanding s)
  | openWindow => exact h.takeCommand _ openCommand
  | closeWindow => exact h.windowCommand _ closeCommand
  | consume => exact h.windowCommand _ consumeCommand
  | rearm => exact h.windowCommand _ rearmCommand
  | queryWindow => exact h.windowCommand _ fun {u} hu w => (u.queryWindow_state w).symm ▸ hu
  | leave => exact h.leads_same (s.takeCommand_sameLanding _ leaveCommand_sameLanding)
  | join => exact h.leads_same (s.takeCommand_sameLanding _ joinCommand_sameLanding)
  | stationReset pins => exact h.execStationReset pins
  | unknownCommand code => exact h.leads_same (execUnknownCommand_sameLanding s code)
  | pop enable => exact h.leads_same (execPop_sameLanding s enable)
  | setInterruptEnable enable => exact h.leads_same (execSetInterruptEnable_sameLanding s enable)
  | registerWrite w value enables => exact h.leads_same (execRegisterWrite_sameLanding s w value enables)

end State

/-- Settles O59: the landing unit, its request at the port and its vote are followed together; most commands leave all three
as they were (`SameLanding`), and a completion is followed from the answer to the arbiter's choice. -/
theorem landingKept : Obligations.LandingKept := by
  intro s t hport h hstep
  obtain ⟨hruns, hquiet⟩ := (landingSound_iff hport).1 h
  have hkept : t.UnitFits :=
    step_keeps (P := UnitFits) (fun _ _ hs => hs.same (.of_other rfl rfl rfl)) (fun i _ hs => hs.exec i) ⟨hruns, hquiet⟩ hstep
  exact (landingSound_iff hkept.runs.writer.port).2 ⟨hkept.runs, hkept.quiet⟩

end Sys2Proof.Machine
